-- ==== Sys2Proof/Word.lean ====
section
/-! DEFINITION. The words of the block: bytes, 16-bit checksums, times and 24-byte raws (00_scope.md R11, R12). A Time
of the spec is a `Nat` of ticks, one tick one millisecond, never wrapping (R11, D3). -/

namespace Sys2Proof

/-- A byte: 8 bits, bit 0 the least significant (R12). -/
abbrev Byte := BitVec 8

/-- A 16-bit value: a checksum or a two-byte field (R9, R60). -/
abbrev Half := BitVec 16

/-- 24 bytes, offsets 0 to 23: the one frame size (R9, R80). -/
abbrev Raw := Vector Byte 24

/-- 24 zero bytes. -/
def Raw.zero : Raw := Vector.replicate 24 0

end Sys2Proof
end

