-- ==== Sys2Proof/Config.lean ====
section
/-! DEFINITION. The configuration record of 00_scope.md R8: what an installation of the block fixes. The model holds a valid
one in its state (`ValidCfg`, entry 4), so every claim quantifies over it. -/

namespace Sys2Proof

/-- `CMD_NONE`, the cleared command byte, 0x00 by R8 and D18 (entry 26). -/
def cmdNone : Byte := 0x00#8

/-- `T_LOG_MOD`, the moderation period of timeout logging: 10 ticks by R8 and R270 (entry 26). -/
def tLogMod : Nat := 10

/-- The parameters of R8. -/
structure Cfg where
  /-- `T_FRAME_INTERVAL` -/
  tFrameInterval : Nat
  /-- `T_MARGIN` -/
  tMargin : Nat
  /-- `T_DATA` -/
  tData : Nat
  /-- `T_START_DELAY` -/
  tStartDelay : Nat
  /-- `T_FRONT_PORCH` -/
  tFrontPorch : Nat
  /-- `T_FRAME_TIME` -/
  tFrameTime : Nat
  /-- `T_REPORT_DELAY` -/
  tReportDelay : Nat
  /-- `CMD_ON` -/
  cmdOn : Byte
  /-- `CMD_OFF` -/
  cmdOff : Byte
  /-- `DEFAULT_BASIS` -/
  defaultBasis : Raw
  /-- `K_CABLE`, ohms -/
  kCable : ℚ
  /-- `TEMP_BYTE_SIGNED` -/
  tempByteSigned : Bool
deriving DecidableEq, Repr

/-- `T_SILENCE`, derived: `T_FRAME_INTERVAL - T_MARGIN` (R8). -/
def Cfg.tSilence (c : Cfg) : Nat := c.tFrameInterval - c.tMargin

/-- The record with the three intervals of the scheduler replaced (R180). -/
def Cfg.withIntervals (c : Cfg) (startDelay frontPorch frameTime : Nat) : Cfg :=
  { c with tStartDelay := startDelay, tFrontPorch := frontPorch, tFrameTime := frameTime }

/-- The configuration the model's reset state carries: TC1 of 95_test_vectors.md section 0.
DESIGN CHOICE, unsafe (entry 4): the spec leaves every value but the two constants to the installation. The two command
bytes are PRESUMED, the heater protocol's (R87, G3; entry 20). -/
def Cfg.tc1 : Cfg where
  tFrameInterval := 1000
  tMargin := 100
  tData := 20
  tStartDelay := 5
  tFrontPorch := 2
  tFrameTime := 20
  tReportDelay := 0
  cmdOn := 0xA0#8
  cmdOff := 0x05#8
  defaultBasis := #v[0x76, 0x16, 0x00, 0x12, 0x14, 0x0E, 0x2D, 0x05, 0xAA, 0x11, 0x94, 0x78,
    0x01, 0x32, 0x08, 0x23, 0x05, 0x00, 0x01, 0x2C, 0x0D, 0xAC, 0x4E, 0xD5]
  kCable := 0
  tempByteSigned := false

end Sys2Proof
end

