-- ==== Sys2Proof/Syntax.lean ====
section
/-! DEFINITION. The operations of the block as syntax: one constructor of `Instr` for each row of spec/opcode_table.json
(30_encoding.md R91) and for the two accessors of 40_codec_crc.md R119 without a row, the enumerations of R83 to R93, the input record of 10_state.md R40, and the lines of a stimulus
script (R95). -/

namespace Sys2Proof

/-- Role of a frame: which of the two layouts applies (R14, R80). -/
inductive Role where
  | controller
  | heater
deriving DecidableEq, Repr

/-- The eleven states of the bus machine (10_state.md R24), in the order of the document. -/
inductive BusState where
  | idle
  | observeMasterFrame
  | validateMasterFrame
  | awaitHeaterReplyToMaster
  | validateHeaterReplyToMaster
  | reportMasterExchange
  | transmitSelf
  | awaitHeaterReplyToSelf
  | validateHeaterReplyToSelf
  | reportSelfExchange
  | housekeeping
deriving DecidableEq, Repr

/-- Bus master (R25). -/
inductive BusMaster where
  | none
  | oem
  | self
deriving DecidableEq, Repr

/-- Kind of OEM controller (R32). -/
inductive OemKind where
  | none
  | active
  | passive
  | unknown
deriving DecidableEq, Repr

/-- Thermostat method (R40). -/
inductive Method where
  | standard
  | windowedHysteresis
  | linearHz
deriving DecidableEq, Repr

/-- Inferred fault code (R30, R93). -/
inductive InferredCode where
  | none
  | ignitionRetry
  | ignitionFail
  | lowVolts
deriving DecidableEq, Repr

/-- The two readings of the overloaded demand byte (R124): a temperature, or the Hz-proxy of the LinearHz and fixed modes. -/
inductive DemandView where
  | temperature
  | hzProxy
deriving DecidableEq, Repr

/-- A validated frame (R115): 24 bytes tagged with a role. Plain data; that its bytes satisfy `VERIFY_CRC` is the check
`Frame.valid` of WellFormed.lean, which the model's invariant carries. -/
structure Frame where
  bytes : Raw
  role : Role
deriving DecidableEq, Repr

/-- The input record of a `STEP` (10_state.md R40), in physical units. -/
structure Inp where
  pumpMin : ℚ
  pumpMax : ℚ
  fanMin : Int
  fanMax : Int
  sensorSelect : Byte
  glowDrive : Byte
  sysVoltage : ℚ
  lowVoltThreshold : ℚ
  method : Method
  window : ℚ
  sensed : ℚ
  desired : ℚ
  thermoEnable : Bool
  fixedDemand : Byte
deriving DecidableEq, Repr

/-- The input record with every field zero, false or Standard: what operand words of zeros stand for. -/
def Inp.zero : Inp where
  pumpMin := 0
  pumpMax := 0
  fanMin := 0
  fanMax := 0
  sensorSelect := 0#8
  glowDrive := 0#8
  sysVoltage := 0
  lowVoltThreshold := 0
  method := .standard
  window := 0
  sensed := 0
  desired := 0
  thermoEnable := false
  fixedDemand := 0#8

/-- The operations: one constructor per row of the opcode table, in the table's order, with the operands its rule names, and
the two `GET`s of `crc`, which R119 gives and the table has no row for (entry 32).
A `GET` takes a frame; a `SET` takes a working copy and a value in the field's physical unit (R119). -/
inductive Instr where
  /-- `BUS_RX`, R150 -/
  | busRx (b : Byte)
  /-- `STEP.Idle`, R157 -/
  | stepIdle (now : Nat) (inp : Inp)
  /-- `STEP.ObserveMasterFrame`, R158 -/
  | stepObserveMasterFrame (now : Nat) (inp : Inp)
  /-- `STEP.ValidateMasterFrame`, R159 -/
  | stepValidateMasterFrame (now : Nat) (inp : Inp)
  /-- `STEP.AwaitHeaterReplyToMaster`, R160 -/
  | stepAwaitHeaterReplyToMaster (now : Nat) (inp : Inp)
  /-- `STEP.ValidateHeaterReplyToMaster`, R161 -/
  | stepValidateHeaterReplyToMaster (now : Nat) (inp : Inp)
  /-- `STEP.ReportMasterExchange`, R162 -/
  | stepReportMasterExchange (now : Nat) (inp : Inp)
  /-- `STEP.TransmitSelf`, R164 -/
  | stepTransmitSelf (now : Nat) (inp : Inp)
  /-- `STEP.AwaitHeaterReplyToSelf`, R165 -/
  | stepAwaitHeaterReplyToSelf (now : Nat) (inp : Inp)
  /-- `STEP.ValidateHeaterReplyToSelf`, R166 -/
  | stepValidateHeaterReplyToSelf (now : Nat) (inp : Inp)
  /-- `STEP.ReportSelfExchange`, R167 -/
  | stepReportSelfExchange (now : Nat) (inp : Inp)
  /-- `STEP.Housekeeping`, R168 -/
  | stepHousekeeping (now : Nat) (inp : Inp)
  /-- `RECYCLE`, R154 -/
  | recycle
  /-- `RESET`, R244 -/
  | reset (t0 : Nat)
  /-- `CRC16`, R110 -/
  | crc16 (data : List Byte)
  /-- `SET_CRC`, R113 -/
  | setCrc (x : Raw)
  /-- `VERIFY_CRC`, R114 -/
  | verifyCrc (x : Raw)
  /-- `PARSE`, R115 -/
  | parse (x : Raw) (role : Role)
  /-- `SERIALIZE`, R118 -/
  | serialize (f : Frame)
  /-- `GET.C.header`, R120 -/
  | getCHeader (f : Frame)
  /-- `SET.C.header`, R120 -/
  | setCHeader (x : Raw) (v : Byte)
  /-- `GET.C.length`, R121 -/
  | getCLength (f : Frame)
  /-- `SET.C.length`, R121 -/
  | setCLength (x : Raw) (v : Byte)
  /-- `GET.C.command`, R122 -/
  | getCCommand (f : Frame)
  /-- `SET.C.command`, R122 -/
  | setCCommand (x : Raw) (v : Byte)
  /-- `GET.C.actualTemperature`, R123 -/
  | getCActualTemperature (f : Frame)
  /-- `SET.C.actualTemperature`, R123 -/
  | setCActualTemperature (x : Raw) (v : Int)
  /-- `GET.C.desiredDemand`, R124 -/
  | getCDesiredDemand (f : Frame) (view : DemandView)
  /-- `SET.C.desiredDemand`, R124 -/
  | setCDesiredDemand (x : Raw) (view : DemandView) (v : Int)
  /-- `GET.C.pumpMinFreq`, R125 -/
  | getCPumpMinFreq (f : Frame)
  /-- `SET.C.pumpMinFreq`, R125 -/
  | setCPumpMinFreq (x : Raw) (p : ℚ)
  /-- `GET.C.pumpMaxFreq`, R126 -/
  | getCPumpMaxFreq (f : Frame)
  /-- `SET.C.pumpMaxFreq`, R126 -/
  | setCPumpMaxFreq (x : Raw) (p : ℚ)
  /-- `GET.C.fanMinRPM`, R127 -/
  | getCFanMinRPM (f : Frame)
  /-- `SET.C.fanMinRPM`, R127 -/
  | setCFanMinRPM (x : Raw) (v : Int)
  /-- `GET.C.fanMaxRPM`, R128 -/
  | getCFanMaxRPM (f : Frame)
  /-- `SET.C.fanMaxRPM`, R128 -/
  | setCFanMaxRPM (x : Raw) (v : Int)
  /-- `GET.C.operatingVoltage`, R129 -/
  | getCOperatingVoltage (f : Frame)
  /-- `SET.C.operatingVoltage`, R129 -/
  | setCOperatingVoltage (x : Raw) (p : ℚ)
  /-- `GET.C.fanSensorSelect`, R130 -/
  | getCFanSensorSelect (f : Frame)
  /-- `SET.C.fanSensorSelect`, R130 -/
  | setCFanSensorSelect (x : Raw) (v : Byte)
  /-- `GET.C.operatingMode`, R131 -/
  | getCOperatingMode (f : Frame)
  /-- `SET.C.operatingMode`, R131 -/
  | setCOperatingMode (x : Raw) (v : Byte)
  /-- `GET.C.minTemperature`, R132 -/
  | getCMinTemperature (f : Frame)
  /-- `SET.C.minTemperature`, R132 -/
  | setCMinTemperature (x : Raw) (v : Int)
  /-- `GET.C.maxTemperature`, R133 -/
  | getCMaxTemperature (f : Frame)
  /-- `SET.C.maxTemperature`, R133 -/
  | setCMaxTemperature (x : Raw) (v : Int)
  /-- `GET.C.glowDrive`, R134 -/
  | getCGlowDrive (f : Frame)
  /-- `SET.C.glowDrive`, R134 -/
  | setCGlowDrive (x : Raw) (v : Byte)
  /-- `GET.C.prime`, R135 -/
  | getCPrime (f : Frame)
  /-- `SET.C.prime`, R135 -/
  | setCPrime (x : Raw) (v : Byte)
  /-- `GET.C.reserved`, R136 -/
  | getCReserved (f : Frame)
  /-- `SET.C.reserved`, R136 -/
  | setCReserved (x : Raw) (v : Vector Byte 4)
  /-- `GET` of the controller's `crc`, R119 -/
  | getCCrc (f : Frame)
  /-- `GET.H.header`, R137 -/
  | getHHeader (f : Frame)
  /-- `SET.H.header`, R137 -/
  | setHHeader (x : Raw) (v : Byte)
  /-- `GET.H.length`, R138 -/
  | getHLength (f : Frame)
  /-- `SET.H.length`, R138 -/
  | setHLength (x : Raw) (v : Byte)
  /-- `GET.H.runState`, R139 -/
  | getHRunState (f : Frame)
  /-- `SET.H.runState`, R139 -/
  | setHRunState (x : Raw) (v : Byte)
  /-- `GET.H.errState`, R140 -/
  | getHErrState (f : Frame)
  /-- `SET.H.errState`, R140 -/
  | setHErrState (x : Raw) (v : Byte)
  /-- `GET.H.supplyVoltage`, R141 -/
  | getHSupplyVoltage (f : Frame)
  /-- `SET.H.supplyVoltage`, R141 -/
  | setHSupplyVoltage (x : Raw) (p : ℚ)
  /-- `GET.H.fanRPM`, R142 -/
  | getHFanRPM (f : Frame)
  /-- `SET.H.fanRPM`, R142 -/
  | setHFanRPM (x : Raw) (v : Int)
  /-- `GET.H.fanVoltage`, R143 -/
  | getHFanVoltage (f : Frame)
  /-- `SET.H.fanVoltage`, R143 -/
  | setHFanVoltage (x : Raw) (p : ℚ)
  /-- `GET.H.heatExchgTemp`, R144 -/
  | getHHeatExchgTemp (f : Frame)
  /-- `SET.H.heatExchgTemp`, R144 -/
  | setHHeatExchgTemp (x : Raw) (v : Int)
  /-- `GET.H.glowVoltage`, R145 -/
  | getHGlowVoltage (f : Frame)
  /-- `SET.H.glowVoltage`, R145 -/
  | setHGlowVoltage (x : Raw) (p : ℚ)
  /-- `GET.H.glowCurrent`, R146 -/
  | getHGlowCurrent (f : Frame)
  /-- `SET.H.glowCurrent`, R146 -/
  | setHGlowCurrent (x : Raw) (p : ℚ)
  /-- `GET.H.actualPumpFreq`, R147 -/
  | getHActualPumpFreq (f : Frame)
  /-- `SET.H.actualPumpFreq`, R147 -/
  | setHActualPumpFreq (x : Raw) (p : ℚ)
  /-- `GET.H.storedErrorCode`, R148 -/
  | getHStoredErrorCode (f : Frame)
  /-- `SET.H.storedErrorCode`, R148 -/
  | setHStoredErrorCode (x : Raw) (v : Byte)
  /-- `GET.H.reserved`, R149 -/
  | getHReserved (f : Frame)
  /-- `SET.H.reserved`, R149 -/
  | setHReserved (x : Raw) (v : Vector Byte 4)
  /-- `GET` of the heater's `crc`, R119 -/
  | getHCrc (f : Frame)
  /-- `TX_CONFIG`, R180 -/
  | txConfig (startDelay : Nat) (frontPorch : Nat) (frameTime : Nat)
  /-- `TX_START`, R181 -/
  | txStart (now : Nat)
  /-- `TX_CHECK`, R182 -/
  | txCheck (now : Nat)
  /-- `PREPARE_FRAME`, R183 -/
  | prepareFrame (basis : Raw) (selfIsMaster : Bool) (inp : Inp)
  /-- `COMPOSE.DISABLED`, R201 -/
  | composeDisabled (x : Raw) (inp : Inp)
  /-- `COMPOSE.STANDARD`, R202 -/
  | composeStandard (x : Raw) (inp : Inp)
  /-- `COMPOSE.WINDOWED`, R205 -/
  | composeWindowed (x : Raw) (inp : Inp)
  /-- `COMPOSE.LINEARHZ`, R204 -/
  | composeLinearHz (x : Raw) (inp : Inp)
  /-- `SFI_UPDATE`, R215 -/
  | sfiUpdate (next : Byte)
  /-- `SFI_INHIBIT`, R216 -/
  | sfiInhibit
  /-- `SFI_RESET`, R217 -/
  | sfiReset
  /-- `CHECK_VOLTS`, R218 -/
  | checkVolts (f : Frame) (inp : Inp)
  /-- `REQ_ON`, R235 -/
  | reqOn (set : Bool)
  /-- `REQ_OFF`, R236 -/
  | reqOff (set : Bool)
  /-- `REQ_RAW`, R237 -/
  | reqRaw (b : Byte)
  /-- `RD_OEM_FRAME`, R238 -/
  | rdOemFrame
  /-- `RD_HTR_FRAME`, R239 -/
  | rdHtrFrame
  /-- `RD_FAULT`, R240 -/
  | rdFault
  /-- `RD_STATUS`, R243 -/
  | rdStatus
  /-- `FRAME.Controller`, R81 -/
  | frameController (x : Raw)
  /-- `FRAME.Heater`, R82 -/
  | frameHeater (x : Raw)
deriving DecidableEq, Repr

/-- Whether a line of a script carries an operation number with operand bytes, or a bare 24-byte frame of a role: the role
is not in a frame's bytes (R80), so the line says it. -/
inductive Format where
  | op8
  | frame24 (role : Role)
deriving DecidableEq, Repr

/-- One line of a stimulus script (R95): the code of an operation (its number, then its operand bytes), the current time
and the current input record under which it stands (the script's `@t` and `INP` settings). -/
structure Line where
  format : Format
  code : List Byte
  now : Nat
  inp : Inp
deriving DecidableEq, Repr

/-- Why a line of a script names no operation. -/
inductive DecodeError where
  /-- The line has no code. -/
  | empty
  /-- The operation number is assigned to no operation (R91). -/
  | unassigned (op : Byte)
  /-- The code ends inside an operand. -/
  | truncated
  /-- Bytes follow the last operand. -/
  | trailing
  /-- A Bool operand is neither 0 nor 1. -/
  | badBool (b : Byte)
  /-- A role operand is neither 0 nor 1 (R93). -/
  | badRole (b : Byte)
  /-- A demand view operand is neither 0 nor 1. -/
  | badView (b : Byte)
  /-- No field of that role stands at that offset (R64). -/
  | noField (role : Role) (offset : Byte)
  /-- A frame line does not hold exactly 24 bytes (R80). -/
  | frameLength
deriving DecidableEq, Repr


end Sys2Proof
end

