-- ==== Sys2Proof/Machine/Crc.lean ====
section
/-! DEFINITION. The frame space and the checksum: the one place that decides byte order (20_memory.md R60, R62), and
CRC-16/MODBUS over bytes 0 to 21 (40_codec_crc.md R110 to R115). -/

namespace Sys2Proof.Machine

/-- The high byte `v[15:8]` (R12). -/
def hiByte (v : Half) : Byte := v.extractLsb' 8 8

/-- The low byte `v[7:0]` (R12). -/
def loByte (v : Half) : Byte := v.extractLsb' 0 8

/-- `MemRead(x + hi, 2)` with `lo = hi + 1`: big-endian, the lower offset the more significant (R13, R60). -/
def memRead2 (x : Raw) (hi lo : Fin 24) : Half := x[hi] ++ x[lo]

/-- `MemWrite(x + hi, 2, v)` with `lo = hi + 1` (R13, R60). -/
def memWrite2 (x : Raw) (hi lo : Fin 24) (v : Half) : Raw := (x.set hi (hiByte v)).set lo (loByte v)

/-- One bit of the table's definition (R111): shift right, and exclusive-or 0xA001 when the bit shifted out is 1.
The constant is PRESUMED (G1, entry 19): general knowledge the spec itself supplies. -/
def crcShift (c : Half) : Half := if c.getLsbD 0 then (c >>> 1) ^^^ 0xA001#16 else c >>> 1

/-- Eight shifts of R111 and R112. -/
def crcShift8 (c : Half) : Half :=
  crcShift (crcShift (crcShift (crcShift (crcShift (crcShift (crcShift (crcShift c)))))))

/-- `TABLE[i]` (R111). -/
def crcTable (i : Byte) : Half := crcShift8 (i.setWidth 16)

/-- One byte of the table-driven form (R110). -/
def crcByte (crc : Half) (b : Byte) : Half := (crc >>> 8) ^^^ crcTable ((crc ^^^ b.setWidth 16).setWidth 8)

/-- `CRC16(x)` (R110): initial value 0xFFFF, one byte at a time, no final step. -/
def crc16 (x : List Byte) : Half := x.foldl crcByte 0xFFFF#16

/-- The bitwise form of R112. -/
def crc16Bitwise (x : List Byte) : Half := x.foldl (fun crc b => crcShift8 (crc ^^^ b.setWidth 16)) 0xFFFF#16

/-- `x[0..21]`, the bytes the checksum covers. -/
def payload (x : Raw) : List Byte := x.toList.take 22

/-- The checksum a frame stores in bytes 22 and 23, most significant byte first (R113, R119). -/
def storedCrc (x : Raw) : Half := memRead2 x 22 23

/-- `SET_CRC(x)` (R113). -/
def setCrc (x : Raw) : Raw := memWrite2 x 22 23 (crc16 (payload x))

/-- `VERIFY_CRC(x)` (R114): the checksum and nothing else. -/
def verifyCrc (x : Raw) : Bool := crc16 (payload x) == storedCrc x

/-- `PARSE(x, role)` (R115). -/
def parse (x : Raw) (role : Role) : Option Frame := if verifyCrc x then some ⟨x, role⟩ else none

/-- `SERIALIZE(f)` (R118). -/
def serialize (f : Frame) : Raw := f.bytes

end Sys2Proof.Machine
end

