-- ==== Sys2Proof/WellFormed.lean ====
section
/-! DEFINITION. When a configuration is valid, a frame validated and an operation well formed (00_scope.md R10;
40_codec_crc.md R115, R116, R119). -/

namespace Sys2Proof

/-- A valid configuration (R8, R10, R262 (c), D41, U17): `T_MARGIN <= T_FRAME_INTERVAL`, `T_FRAME_TIME > T_START_DELAY +
T_FRONT_PORCH`, a `DEFAULT_BASIS` with byte 1 = 0x16 (R281) and a correct checksum, and `K_CABLE >= 0`. -/
def Cfg.valid (c : Cfg) : Bool :=
  decide (c.tMargin ≤ c.tFrameInterval) && decide (c.tStartDelay + c.tFrontPorch < c.tFrameTime) &&
    Machine.verifyCrc c.defaultBasis && c.defaultBasis[1] == 0x16#8 && decide (0 ≤ c.kCable)

/-- The configuration of an engine. Its type carries the proof of validity (U1), so that an invalid configuration has no
engine at all (R10). -/
structure ValidCfg extends Cfg where
  isValid : toCfg.valid = true
deriving DecidableEq, Repr

/-- TC1 is valid (95_test_vectors.md section 0). -/
theorem Cfg.tc1_valid : Cfg.tc1.valid = true := by decide +kernel

/-- A frame of the given role whose bytes satisfy `VERIFY_CRC`: what `PARSE` answers (R115), and all that `GET` may take
(R116, R119). -/
def Frame.valid (role : Role) (f : Frame) : Bool := decide (f.role = role) && Machine.verifyCrc f.bytes

/-- Well-formed operations: an operand that is a `Frame` is a validated one of the role the operation reads (R116, R119).
Every other operand is right by its type. -/
def Instr.wellFormed (i : Instr) : Bool :=
  match i with
  | .serialize f => f.valid f.role
  | .checkVolts f _ => f.valid .heater
  | .getCHeader f => f.valid .controller
  | .getCLength f => f.valid .controller
  | .getCCommand f => f.valid .controller
  | .getCActualTemperature f => f.valid .controller
  | .getCDesiredDemand f _ => f.valid .controller
  | .getCPumpMinFreq f => f.valid .controller
  | .getCPumpMaxFreq f => f.valid .controller
  | .getCFanMinRPM f => f.valid .controller
  | .getCFanMaxRPM f => f.valid .controller
  | .getCOperatingVoltage f => f.valid .controller
  | .getCFanSensorSelect f => f.valid .controller
  | .getCOperatingMode f => f.valid .controller
  | .getCMinTemperature f => f.valid .controller
  | .getCMaxTemperature f => f.valid .controller
  | .getCGlowDrive f => f.valid .controller
  | .getCPrime f => f.valid .controller
  | .getCReserved f => f.valid .controller
  | .getHHeader f => f.valid .heater
  | .getHLength f => f.valid .heater
  | .getHRunState f => f.valid .heater
  | .getHErrState f => f.valid .heater
  | .getHSupplyVoltage f => f.valid .heater
  | .getHFanRPM f => f.valid .heater
  | .getHFanVoltage f => f.valid .heater
  | .getHHeatExchgTemp f => f.valid .heater
  | .getHGlowVoltage f => f.valid .heater
  | .getHGlowCurrent f => f.valid .heater
  | .getHActualPumpFreq f => f.valid .heater
  | .getHStoredErrorCode f => f.valid .heater
  | .getHReserved f => f.valid .heater
  | .getCCrc f => f.valid .controller
  | .getHCrc f => f.valid .heater
  | .busRx _ => true
  | .stepIdle _ _ => true
  | .stepObserveMasterFrame _ _ => true
  | .stepValidateMasterFrame _ _ => true
  | .stepAwaitHeaterReplyToMaster _ _ => true
  | .stepValidateHeaterReplyToMaster _ _ => true
  | .stepReportMasterExchange _ _ => true
  | .stepTransmitSelf _ _ => true
  | .stepAwaitHeaterReplyToSelf _ _ => true
  | .stepValidateHeaterReplyToSelf _ _ => true
  | .stepReportSelfExchange _ _ => true
  | .stepHousekeeping _ _ => true
  | .recycle => true
  | .reset _ => true
  | .crc16 _ => true
  | .setCrc _ => true
  | .verifyCrc _ => true
  | .parse _ _ => true
  | .setCHeader _ _ => true
  | .setCLength _ _ => true
  | .setCCommand _ _ => true
  | .setCActualTemperature _ _ => true
  | .setCDesiredDemand _ _ _ => true
  | .setCPumpMinFreq _ _ => true
  | .setCPumpMaxFreq _ _ => true
  | .setCFanMinRPM _ _ => true
  | .setCFanMaxRPM _ _ => true
  | .setCOperatingVoltage _ _ => true
  | .setCFanSensorSelect _ _ => true
  | .setCOperatingMode _ _ => true
  | .setCMinTemperature _ _ => true
  | .setCMaxTemperature _ _ => true
  | .setCGlowDrive _ _ => true
  | .setCPrime _ _ => true
  | .setCReserved _ _ => true
  | .setHHeader _ _ => true
  | .setHLength _ _ => true
  | .setHRunState _ _ => true
  | .setHErrState _ _ => true
  | .setHSupplyVoltage _ _ => true
  | .setHFanRPM _ _ => true
  | .setHFanVoltage _ _ => true
  | .setHHeatExchgTemp _ _ => true
  | .setHGlowVoltage _ _ => true
  | .setHGlowCurrent _ _ => true
  | .setHActualPumpFreq _ _ => true
  | .setHStoredErrorCode _ _ => true
  | .setHReserved _ _ => true
  | .txConfig _ _ _ => true
  | .txStart _ => true
  | .txCheck _ => true
  | .prepareFrame _ _ _ => true
  | .composeDisabled _ _ => true
  | .composeStandard _ _ => true
  | .composeWindowed _ _ => true
  | .composeLinearHz _ _ => true
  | .sfiUpdate _ => true
  | .sfiInhibit => true
  | .sfiReset => true
  | .reqOn _ => true
  | .reqOff _ => true
  | .reqRaw _ => true
  | .rdOemFrame => true
  | .rdHtrFrame => true
  | .rdFault => true
  | .rdStatus => true
  | .frameController _ => true
  | .frameHeater _ => true

end Sys2Proof
end

