-- ==== Sys2Proof/Decode.lean ====
section
/-! DEFINITION. From the lines of a stimulus script to operations and back (30_encoding.md R91 to R95; 95_test_vectors.md
section 3). The spec gives an operation its number and one-byte operands their byte; the time and the input record stand
beside the code, as in the script notation; the encoding of the other operands is the model's own (entry 2). -/

namespace Sys2Proof

/-- Sequencing of operand readers: the first error wins, and the rest of the code goes on. -/
def andThen {α β : Type} (p : Except DecodeError (α × List Byte))
    (k : α → List Byte → Except DecodeError β) : Except DecodeError β :=
  match p with
  | .error e => .error e
  | .ok (a, rest) => k a rest

/-- A one-byte operand. -/
def decByte (l : List Byte) : Except DecodeError (Byte × List Byte) :=
  match l with
  | [] => .error .truncated
  | b :: rest => .ok (b, rest)

/-- A Bool operand: 0 or 1 (R95, `REQ_ON 1` is `50 01`). -/
def decBool (l : List Byte) : Except DecodeError (Bool × List Byte) :=
  andThen (decByte l) fun b rest =>
    if b = 0#8 then .ok (false, rest) else if b = 1#8 then .ok (true, rest) else .error (.badBool b)

def encBool (v : Bool) : List Byte := [if v then 1#8 else 0#8]

/-- A role: 0 Controller, 1 Heater (R93). -/
def decRole (l : List Byte) : Except DecodeError (Role × List Byte) :=
  andThen (decByte l) fun b rest =>
    if b = 0#8 then .ok (.controller, rest) else if b = 1#8 then .ok (.heater, rest) else .error (.badRole b)

/-- The code of a role (R93). -/
def roleCode (r : Role) : Byte :=
  match r with
  | .controller => 0#8
  | .heater => 1#8

/-- A reading of the demand byte (R124): 0 temperature, 1 Hz-proxy. -/
def decView (l : List Byte) : Except DecodeError (DemandView × List Byte) :=
  andThen (decByte l) fun b rest =>
    if b = 0#8 then .ok (.temperature, rest) else if b = 1#8 then .ok (.hzProxy, rest) else .error (.badView b)

def viewCode (v : DemandView) : Byte :=
  match v with
  | .temperature => 0#8
  | .hzProxy => 1#8

/-- A natural number, seven bits a byte, least significant first; a byte of 128 or more is followed by another. -/
def decNat (l : List Byte) : Except DecodeError (Nat × List Byte) :=
  match l with
  | [] => .error .truncated
  | b :: rest =>
    if b.toNat < 128 then .ok (b.toNat, rest)
    else andThen (decNat rest) fun n rest' => .ok (b.toNat - 128 + 128 * n, rest')

/-- `encNat` with the number of bytes it may still need. -/
def encNatFuel (fuel n : Nat) : List Byte :=
  match fuel with
  | 0 => [BitVec.ofNat 8 n]
  | k + 1 => if n < 128 then [BitVec.ofNat 8 n] else BitVec.ofNat 8 (128 + n % 128) :: encNatFuel k (n / 128)

def encNat (n : Nat) : List Byte := encNatFuel n n

/-- An integer: `n` as `2n`, a negative `-n - 1` as `2n + 1`. -/
def decInt (l : List Byte) : Except DecodeError (Int × List Byte) :=
  andThen (decNat l) fun n rest => .ok (if n % 2 = 0 then ((n / 2 : Nat) : Int) else -((n / 2 : Nat) : Int) - 1, rest)

def encInt (v : Int) : List Byte :=
  match v with
  | .ofNat n => encNat (2 * n)
  | .negSucc n => encNat (2 * n + 1)

/-- An exact rational: its numerator, then its denominator less one. -/
def decRat (l : List Byte) : Except DecodeError (ℚ × List Byte) :=
  andThen (decInt l) fun n rest => andThen (decNat rest) fun d rest' => .ok (mkRat n (d + 1), rest')

def encRat (q : ℚ) : List Byte := encInt q.num ++ encNat (q.den - 1)

/-- `n` bytes as they stand, lowest offset first (R80). -/
def decVector (n : Nat) (l : List Byte) : Except DecodeError (Vector Byte n × List Byte) :=
  if h : n ≤ l.length then .ok (⟨(l.take n).toArray, by simp [h]⟩, l.drop n) else .error .truncated

/-- A byte sequence: its length, then its bytes. -/
def decData (l : List Byte) : Except DecodeError (List Byte × List Byte) :=
  andThen (decNat l) fun n rest => if n ≤ rest.length then .ok (rest.take n, rest.drop n) else .error .truncated

def encData (data : List Byte) : List Byte := encNat data.length ++ data

/-- A validated frame: bytes 0 to 21, from which bytes 22 and 23 follow (R71, R113), so that no code stands for a frame
that has not been validated (R116). -/
def decFrame (role : Role) (l : List Byte) : Except DecodeError (Frame × List Byte) :=
  andThen (decVector 22 l) fun v rest => .ok (⟨Machine.setCrc (v ++ (#v[0#8, 0#8] : Vector Byte 2)), role⟩, rest)

def encFrame (f : Frame) : List Byte := Machine.payload f.bytes

/-- The row of `STEP` that a pass in state `st` executes (R151, R92). -/
def stepRow (st : BusState) (now : Nat) (inp : Inp) : Instr :=
  match st with
  | .idle => .stepIdle now inp
  | .observeMasterFrame => .stepObserveMasterFrame now inp
  | .validateMasterFrame => .stepValidateMasterFrame now inp
  | .awaitHeaterReplyToMaster => .stepAwaitHeaterReplyToMaster now inp
  | .validateHeaterReplyToMaster => .stepValidateHeaterReplyToMaster now inp
  | .reportMasterExchange => .stepReportMasterExchange now inp
  | .transmitSelf => .stepTransmitSelf now inp
  | .awaitHeaterReplyToSelf => .stepAwaitHeaterReplyToSelf now inp
  | .validateHeaterReplyToSelf => .stepValidateHeaterReplyToSelf now inp
  | .reportSelfExchange => .stepReportSelfExchange now inp
  | .housekeeping => .stepHousekeeping now inp

/-- The state whose pass executes a row of `STEP`; every other operation is read alike in all states. -/
def Instr.selector (i : Instr) : BusState :=
  match i with
  | .stepIdle _ _ => .idle
  | .stepObserveMasterFrame _ _ => .observeMasterFrame
  | .stepValidateMasterFrame _ _ => .validateMasterFrame
  | .stepAwaitHeaterReplyToMaster _ _ => .awaitHeaterReplyToMaster
  | .stepValidateHeaterReplyToMaster _ _ => .validateHeaterReplyToMaster
  | .stepReportMasterExchange _ _ => .reportMasterExchange
  | .stepTransmitSelf _ _ => .transmitSelf
  | .stepAwaitHeaterReplyToSelf _ _ => .awaitHeaterReplyToSelf
  | .stepValidateHeaterReplyToSelf _ _ => .validateHeaterReplyToSelf
  | .stepReportSelfExchange _ _ => .reportSelfExchange
  | .stepHousekeeping _ _ => .housekeeping
  | .busRx _ => .idle
  | .recycle => .idle
  | .reset _ => .idle
  | .crc16 _ => .idle
  | .setCrc _ => .idle
  | .verifyCrc _ => .idle
  | .parse _ _ => .idle
  | .serialize _ => .idle
  | .getCHeader _ => .idle
  | .setCHeader _ _ => .idle
  | .getCLength _ => .idle
  | .setCLength _ _ => .idle
  | .getCCommand _ => .idle
  | .setCCommand _ _ => .idle
  | .getCActualTemperature _ => .idle
  | .setCActualTemperature _ _ => .idle
  | .getCDesiredDemand _ _ => .idle
  | .setCDesiredDemand _ _ _ => .idle
  | .getCPumpMinFreq _ => .idle
  | .setCPumpMinFreq _ _ => .idle
  | .getCPumpMaxFreq _ => .idle
  | .setCPumpMaxFreq _ _ => .idle
  | .getCFanMinRPM _ => .idle
  | .setCFanMinRPM _ _ => .idle
  | .getCFanMaxRPM _ => .idle
  | .setCFanMaxRPM _ _ => .idle
  | .getCOperatingVoltage _ => .idle
  | .setCOperatingVoltage _ _ => .idle
  | .getCFanSensorSelect _ => .idle
  | .setCFanSensorSelect _ _ => .idle
  | .getCOperatingMode _ => .idle
  | .setCOperatingMode _ _ => .idle
  | .getCMinTemperature _ => .idle
  | .setCMinTemperature _ _ => .idle
  | .getCMaxTemperature _ => .idle
  | .setCMaxTemperature _ _ => .idle
  | .getCGlowDrive _ => .idle
  | .setCGlowDrive _ _ => .idle
  | .getCPrime _ => .idle
  | .setCPrime _ _ => .idle
  | .getCReserved _ => .idle
  | .setCReserved _ _ => .idle
  | .getCCrc _ => .idle
  | .getHHeader _ => .idle
  | .setHHeader _ _ => .idle
  | .getHLength _ => .idle
  | .setHLength _ _ => .idle
  | .getHRunState _ => .idle
  | .setHRunState _ _ => .idle
  | .getHErrState _ => .idle
  | .setHErrState _ _ => .idle
  | .getHSupplyVoltage _ => .idle
  | .setHSupplyVoltage _ _ => .idle
  | .getHFanRPM _ => .idle
  | .setHFanRPM _ _ => .idle
  | .getHFanVoltage _ => .idle
  | .setHFanVoltage _ _ => .idle
  | .getHHeatExchgTemp _ => .idle
  | .setHHeatExchgTemp _ _ => .idle
  | .getHGlowVoltage _ => .idle
  | .setHGlowVoltage _ _ => .idle
  | .getHGlowCurrent _ => .idle
  | .setHGlowCurrent _ _ => .idle
  | .getHActualPumpFreq _ => .idle
  | .setHActualPumpFreq _ _ => .idle
  | .getHStoredErrorCode _ => .idle
  | .setHStoredErrorCode _ _ => .idle
  | .getHReserved _ => .idle
  | .setHReserved _ _ => .idle
  | .getHCrc _ => .idle
  | .txConfig _ _ _ => .idle
  | .txStart _ => .idle
  | .txCheck _ => .idle
  | .prepareFrame _ _ _ => .idle
  | .composeDisabled _ _ => .idle
  | .composeStandard _ _ => .idle
  | .composeWindowed _ _ => .idle
  | .composeLinearHz _ _ => .idle
  | .sfiUpdate _ => .idle
  | .sfiInhibit => .idle
  | .sfiReset => .idle
  | .checkVolts _ _ => .idle
  | .reqOn _ => .idle
  | .reqOff _ => .idle
  | .reqRaw _ => .idle
  | .rdOemFrame => .idle
  | .rdHtrFrame => .idle
  | .rdFault => .idle
  | .rdStatus => .idle
  | .frameController _ => .idle
  | .frameHeater _ => .idle

/-- `GET` (operation 0x15): role, field offset, then the frame (R91, R119). -/
def decodeGet (l : List Byte) : Except DecodeError (Instr × List Byte) :=
  andThen (decRole l) fun role l1 => andThen (decByte l1) fun off l2 =>
  match role, off.toNat with
  | .controller, 0 => andThen (decFrame .controller l2) fun f r => .ok (.getCHeader f, r)
  | .controller, 1 => andThen (decFrame .controller l2) fun f r => .ok (.getCLength f, r)
  | .controller, 2 => andThen (decFrame .controller l2) fun f r => .ok (.getCCommand f, r)
  | .controller, 3 => andThen (decFrame .controller l2) fun f r => .ok (.getCActualTemperature f, r)
  | .controller, 4 => andThen (decView l2) fun view l3 => andThen (decFrame .controller l3) fun f r => .ok (.getCDesiredDemand f view, r)
  | .controller, 5 => andThen (decFrame .controller l2) fun f r => .ok (.getCPumpMinFreq f, r)
  | .controller, 6 => andThen (decFrame .controller l2) fun f r => .ok (.getCPumpMaxFreq f, r)
  | .controller, 7 => andThen (decFrame .controller l2) fun f r => .ok (.getCFanMinRPM f, r)
  | .controller, 9 => andThen (decFrame .controller l2) fun f r => .ok (.getCFanMaxRPM f, r)
  | .controller, 11 => andThen (decFrame .controller l2) fun f r => .ok (.getCOperatingVoltage f, r)
  | .controller, 12 => andThen (decFrame .controller l2) fun f r => .ok (.getCFanSensorSelect f, r)
  | .controller, 13 => andThen (decFrame .controller l2) fun f r => .ok (.getCOperatingMode f, r)
  | .controller, 14 => andThen (decFrame .controller l2) fun f r => .ok (.getCMinTemperature f, r)
  | .controller, 15 => andThen (decFrame .controller l2) fun f r => .ok (.getCMaxTemperature f, r)
  | .controller, 16 => andThen (decFrame .controller l2) fun f r => .ok (.getCGlowDrive f, r)
  | .controller, 17 => andThen (decFrame .controller l2) fun f r => .ok (.getCPrime f, r)
  | .controller, 18 => andThen (decFrame .controller l2) fun f r => .ok (.getCReserved f, r)
  | .controller, 22 => andThen (decFrame .controller l2) fun f r => .ok (.getCCrc f, r)
  | .heater, 0 => andThen (decFrame .heater l2) fun f r => .ok (.getHHeader f, r)
  | .heater, 1 => andThen (decFrame .heater l2) fun f r => .ok (.getHLength f, r)
  | .heater, 2 => andThen (decFrame .heater l2) fun f r => .ok (.getHRunState f, r)
  | .heater, 3 => andThen (decFrame .heater l2) fun f r => .ok (.getHErrState f, r)
  | .heater, 4 => andThen (decFrame .heater l2) fun f r => .ok (.getHSupplyVoltage f, r)
  | .heater, 6 => andThen (decFrame .heater l2) fun f r => .ok (.getHFanRPM f, r)
  | .heater, 8 => andThen (decFrame .heater l2) fun f r => .ok (.getHFanVoltage f, r)
  | .heater, 10 => andThen (decFrame .heater l2) fun f r => .ok (.getHHeatExchgTemp f, r)
  | .heater, 12 => andThen (decFrame .heater l2) fun f r => .ok (.getHGlowVoltage f, r)
  | .heater, 14 => andThen (decFrame .heater l2) fun f r => .ok (.getHGlowCurrent f, r)
  | .heater, 16 => andThen (decFrame .heater l2) fun f r => .ok (.getHActualPumpFreq f, r)
  | .heater, 17 => andThen (decFrame .heater l2) fun f r => .ok (.getHStoredErrorCode f, r)
  | .heater, 18 => andThen (decFrame .heater l2) fun f r => .ok (.getHReserved f, r)
  | .heater, 22 => andThen (decFrame .heater l2) fun f r => .ok (.getHCrc f, r)
  | role, _ => .error (.noField role off)

/-- `SET` (operation 0x16): role, field offset, the working copy, then the value (R91, R119). `crc` has no `SET`: it is set
only by `SET_CRC` (R119). -/
def decodeSet (l : List Byte) : Except DecodeError (Instr × List Byte) :=
  andThen (decRole l) fun role l1 => andThen (decByte l1) fun off l2 =>
  match role, off.toNat with
  | .controller, 0 => andThen (decVector 24 l2) fun x l3 => andThen (decByte l3) fun v r => .ok (.setCHeader x v, r)
  | .controller, 1 => andThen (decVector 24 l2) fun x l3 => andThen (decByte l3) fun v r => .ok (.setCLength x v, r)
  | .controller, 2 => andThen (decVector 24 l2) fun x l3 => andThen (decByte l3) fun v r => .ok (.setCCommand x v, r)
  | .controller, 3 => andThen (decVector 24 l2) fun x l3 => andThen (decInt l3) fun v r => .ok (.setCActualTemperature x v, r)
  | .controller, 4 => andThen (decView l2) fun view l3 => andThen (decVector 24 l3) fun x l4 =>
    andThen (decInt l4) fun v r => .ok (.setCDesiredDemand x view v, r)
  | .controller, 5 => andThen (decVector 24 l2) fun x l3 => andThen (decRat l3) fun v r => .ok (.setCPumpMinFreq x v, r)
  | .controller, 6 => andThen (decVector 24 l2) fun x l3 => andThen (decRat l3) fun v r => .ok (.setCPumpMaxFreq x v, r)
  | .controller, 7 => andThen (decVector 24 l2) fun x l3 => andThen (decInt l3) fun v r => .ok (.setCFanMinRPM x v, r)
  | .controller, 9 => andThen (decVector 24 l2) fun x l3 => andThen (decInt l3) fun v r => .ok (.setCFanMaxRPM x v, r)
  | .controller, 11 => andThen (decVector 24 l2) fun x l3 => andThen (decRat l3) fun v r => .ok (.setCOperatingVoltage x v, r)
  | .controller, 12 => andThen (decVector 24 l2) fun x l3 => andThen (decByte l3) fun v r => .ok (.setCFanSensorSelect x v, r)
  | .controller, 13 => andThen (decVector 24 l2) fun x l3 => andThen (decByte l3) fun v r => .ok (.setCOperatingMode x v, r)
  | .controller, 14 => andThen (decVector 24 l2) fun x l3 => andThen (decInt l3) fun v r => .ok (.setCMinTemperature x v, r)
  | .controller, 15 => andThen (decVector 24 l2) fun x l3 => andThen (decInt l3) fun v r => .ok (.setCMaxTemperature x v, r)
  | .controller, 16 => andThen (decVector 24 l2) fun x l3 => andThen (decByte l3) fun v r => .ok (.setCGlowDrive x v, r)
  | .controller, 17 => andThen (decVector 24 l2) fun x l3 => andThen (decByte l3) fun v r => .ok (.setCPrime x v, r)
  | .controller, 18 => andThen (decVector 24 l2) fun x l3 => andThen (decVector 4 l3) fun v r => .ok (.setCReserved x v, r)
  | .heater, 0 => andThen (decVector 24 l2) fun x l3 => andThen (decByte l3) fun v r => .ok (.setHHeader x v, r)
  | .heater, 1 => andThen (decVector 24 l2) fun x l3 => andThen (decByte l3) fun v r => .ok (.setHLength x v, r)
  | .heater, 2 => andThen (decVector 24 l2) fun x l3 => andThen (decByte l3) fun v r => .ok (.setHRunState x v, r)
  | .heater, 3 => andThen (decVector 24 l2) fun x l3 => andThen (decByte l3) fun v r => .ok (.setHErrState x v, r)
  | .heater, 4 => andThen (decVector 24 l2) fun x l3 => andThen (decRat l3) fun v r => .ok (.setHSupplyVoltage x v, r)
  | .heater, 6 => andThen (decVector 24 l2) fun x l3 => andThen (decInt l3) fun v r => .ok (.setHFanRPM x v, r)
  | .heater, 8 => andThen (decVector 24 l2) fun x l3 => andThen (decRat l3) fun v r => .ok (.setHFanVoltage x v, r)
  | .heater, 10 => andThen (decVector 24 l2) fun x l3 => andThen (decInt l3) fun v r => .ok (.setHHeatExchgTemp x v, r)
  | .heater, 12 => andThen (decVector 24 l2) fun x l3 => andThen (decRat l3) fun v r => .ok (.setHGlowVoltage x v, r)
  | .heater, 14 => andThen (decVector 24 l2) fun x l3 => andThen (decRat l3) fun v r => .ok (.setHGlowCurrent x v, r)
  | .heater, 16 => andThen (decVector 24 l2) fun x l3 => andThen (decRat l3) fun v r => .ok (.setHActualPumpFreq x v, r)
  | .heater, 17 => andThen (decVector 24 l2) fun x l3 => andThen (decByte l3) fun v r => .ok (.setHStoredErrorCode x v, r)
  | .heater, 18 => andThen (decVector 24 l2) fun x l3 => andThen (decVector 4 l3) fun v r => .ok (.setHReserved x v, r)
  | role, _ => .error (.noField role off)

/-- An operation from its code (R91), under the state that selects the row of `STEP`, the line's time and its input
record: the operation and the code that follows it. An unassigned number is rejected by name. -/
def decodeOp (st : BusState) (now : Nat) (inp : Inp) (code : List Byte) : Except DecodeError (Instr × List Byte) :=
  match code with
  | [] => .error .empty
  | op :: l =>
    match op.toNat with
    | 0x00 => andThen (decByte l) fun b r => .ok (.busRx b, r)
    | 0x01 => .ok (stepRow st now inp, l)
    | 0x02 => .ok (.recycle, l)
    | 0x0F => .ok (.reset now, l)
    | 0x10 => andThen (decData l) fun data r => .ok (.crc16 data, r)
    | 0x11 => andThen (decVector 24 l) fun x r => .ok (.setCrc x, r)
    | 0x12 => andThen (decVector 24 l) fun x r => .ok (.verifyCrc x, r)
    | 0x13 => andThen (decVector 24 l) fun x l1 => andThen (decRole l1) fun role r => .ok (.parse x role, r)
    | 0x14 => andThen (decRole l) fun role l1 => andThen (decFrame role l1) fun f r => .ok (.serialize f, r)
    | 0x15 => decodeGet l
    | 0x16 => decodeSet l
    | 0x20 => andThen (decNat l) fun a l1 => andThen (decNat l1) fun b l2 => andThen (decNat l2) fun c r =>
        .ok (.txConfig a b c, r)
    | 0x21 => .ok (.txStart now, l)
    | 0x22 => .ok (.txCheck now, l)
    | 0x23 => andThen (decVector 24 l) fun basis l1 => andThen (decBool l1) fun m r => .ok (.prepareFrame basis m inp, r)
    | 0x30 => andThen (decVector 24 l) fun x r => .ok (.composeDisabled x inp, r)
    | 0x31 => andThen (decVector 24 l) fun x r => .ok (.composeStandard x inp, r)
    | 0x32 => andThen (decVector 24 l) fun x r => .ok (.composeWindowed x inp, r)
    | 0x33 => andThen (decVector 24 l) fun x r => .ok (.composeLinearHz x inp, r)
    | 0x40 => andThen (decByte l) fun b r => .ok (.sfiUpdate b, r)
    | 0x41 => .ok (.sfiInhibit, l)
    | 0x42 => .ok (.sfiReset, l)
    | 0x43 => andThen (decFrame .heater l) fun f r => .ok (.checkVolts f inp, r)
    | 0x50 => andThen (decBool l) fun b r => .ok (.reqOn b, r)
    | 0x51 => andThen (decBool l) fun b r => .ok (.reqOff b, r)
    | 0x52 => andThen (decByte l) fun b r => .ok (.reqRaw b, r)
    | 0x58 => .ok (.rdOemFrame, l)
    | 0x59 => .ok (.rdHtrFrame, l)
    | 0x5A => .ok (.rdFault, l)
    | 0x5B => .ok (.rdStatus, l)
    | _ => .error (.unassigned op)

/-- The operation a line of a script stands for: the whole line or none of it. -/
def decode (st : BusState) (l : Line) : Except DecodeError Instr :=
  match l.format with
  | .frame24 role =>
    if h : l.code.length = 24 then
      .ok (match role with
        | .controller => .frameController ⟨l.code.toArray, h⟩
        | .heater => .frameHeater ⟨l.code.toArray, h⟩)
    else .error .frameLength
  | .op8 =>
    match decodeOp st l.now l.inp l.code with
    | .error e => .error e
    | .ok (i, []) => .ok i
    | .ok (_, _ :: _) => .error .trailing

/-- The operation number of R91; the two frame layouts have none. -/
def Instr.opNumber (i : Instr) : Option Byte :=
  match i with
  | .busRx _ => some 0x00#8
  | .stepIdle _ _ => some 0x01#8
  | .stepObserveMasterFrame _ _ => some 0x01#8
  | .stepValidateMasterFrame _ _ => some 0x01#8
  | .stepAwaitHeaterReplyToMaster _ _ => some 0x01#8
  | .stepValidateHeaterReplyToMaster _ _ => some 0x01#8
  | .stepReportMasterExchange _ _ => some 0x01#8
  | .stepTransmitSelf _ _ => some 0x01#8
  | .stepAwaitHeaterReplyToSelf _ _ => some 0x01#8
  | .stepValidateHeaterReplyToSelf _ _ => some 0x01#8
  | .stepReportSelfExchange _ _ => some 0x01#8
  | .stepHousekeeping _ _ => some 0x01#8
  | .recycle => some 0x02#8
  | .reset _ => some 0x0F#8
  | .crc16 _ => some 0x10#8
  | .setCrc _ => some 0x11#8
  | .verifyCrc _ => some 0x12#8
  | .parse _ _ => some 0x13#8
  | .serialize _ => some 0x14#8
  | .getCHeader _ => some 0x15#8
  | .setCHeader _ _ => some 0x16#8
  | .getCLength _ => some 0x15#8
  | .setCLength _ _ => some 0x16#8
  | .getCCommand _ => some 0x15#8
  | .setCCommand _ _ => some 0x16#8
  | .getCActualTemperature _ => some 0x15#8
  | .setCActualTemperature _ _ => some 0x16#8
  | .getCDesiredDemand _ _ => some 0x15#8
  | .setCDesiredDemand _ _ _ => some 0x16#8
  | .getCPumpMinFreq _ => some 0x15#8
  | .setCPumpMinFreq _ _ => some 0x16#8
  | .getCPumpMaxFreq _ => some 0x15#8
  | .setCPumpMaxFreq _ _ => some 0x16#8
  | .getCFanMinRPM _ => some 0x15#8
  | .setCFanMinRPM _ _ => some 0x16#8
  | .getCFanMaxRPM _ => some 0x15#8
  | .setCFanMaxRPM _ _ => some 0x16#8
  | .getCOperatingVoltage _ => some 0x15#8
  | .setCOperatingVoltage _ _ => some 0x16#8
  | .getCFanSensorSelect _ => some 0x15#8
  | .setCFanSensorSelect _ _ => some 0x16#8
  | .getCOperatingMode _ => some 0x15#8
  | .setCOperatingMode _ _ => some 0x16#8
  | .getCMinTemperature _ => some 0x15#8
  | .setCMinTemperature _ _ => some 0x16#8
  | .getCMaxTemperature _ => some 0x15#8
  | .setCMaxTemperature _ _ => some 0x16#8
  | .getCGlowDrive _ => some 0x15#8
  | .setCGlowDrive _ _ => some 0x16#8
  | .getCPrime _ => some 0x15#8
  | .setCPrime _ _ => some 0x16#8
  | .getCReserved _ => some 0x15#8
  | .setCReserved _ _ => some 0x16#8
  | .getCCrc _ => some 0x15#8
  | .getHHeader _ => some 0x15#8
  | .setHHeader _ _ => some 0x16#8
  | .getHLength _ => some 0x15#8
  | .setHLength _ _ => some 0x16#8
  | .getHRunState _ => some 0x15#8
  | .setHRunState _ _ => some 0x16#8
  | .getHErrState _ => some 0x15#8
  | .setHErrState _ _ => some 0x16#8
  | .getHSupplyVoltage _ => some 0x15#8
  | .setHSupplyVoltage _ _ => some 0x16#8
  | .getHFanRPM _ => some 0x15#8
  | .setHFanRPM _ _ => some 0x16#8
  | .getHFanVoltage _ => some 0x15#8
  | .setHFanVoltage _ _ => some 0x16#8
  | .getHHeatExchgTemp _ => some 0x15#8
  | .setHHeatExchgTemp _ _ => some 0x16#8
  | .getHGlowVoltage _ => some 0x15#8
  | .setHGlowVoltage _ _ => some 0x16#8
  | .getHGlowCurrent _ => some 0x15#8
  | .setHGlowCurrent _ _ => some 0x16#8
  | .getHActualPumpFreq _ => some 0x15#8
  | .setHActualPumpFreq _ _ => some 0x16#8
  | .getHStoredErrorCode _ => some 0x15#8
  | .setHStoredErrorCode _ _ => some 0x16#8
  | .getHReserved _ => some 0x15#8
  | .setHReserved _ _ => some 0x16#8
  | .getHCrc _ => some 0x15#8
  | .txConfig _ _ _ => some 0x20#8
  | .txStart _ => some 0x21#8
  | .txCheck _ => some 0x22#8
  | .prepareFrame _ _ _ => some 0x23#8
  | .composeDisabled _ _ => some 0x30#8
  | .composeStandard _ _ => some 0x31#8
  | .composeWindowed _ _ => some 0x32#8
  | .composeLinearHz _ _ => some 0x33#8
  | .sfiUpdate _ => some 0x40#8
  | .sfiInhibit => some 0x41#8
  | .sfiReset => some 0x42#8
  | .checkVolts _ _ => some 0x43#8
  | .reqOn _ => some 0x50#8
  | .reqOff _ => some 0x51#8
  | .reqRaw _ => some 0x52#8
  | .rdOemFrame => some 0x58#8
  | .rdHtrFrame => some 0x59#8
  | .rdFault => some 0x5A#8
  | .rdStatus => some 0x5B#8
  | .frameController _ => none
  | .frameHeater _ => none

/-- A line of an operation with no time and no input record. -/
def Line.ofCode (code : List Byte) : Line := ⟨.op8, code, 0, Inp.zero⟩

/-- A line of an operation at a time. -/
def Line.atTime (code : List Byte) (now : Nat) : Line := ⟨.op8, code, now, Inp.zero⟩

/-- A line of an operation under an input record. -/
def Line.withInp (code : List Byte) (inp : Inp) : Line := ⟨.op8, code, 0, inp⟩

/-- The line of a well-formed operation, from the numbers of R91. -/
def encode (i : Instr) : Line :=
  match i with
  | .busRx b => Line.ofCode [0x00#8, b]
  | .stepIdle now inp => ⟨.op8, [0x01#8], now, inp⟩
  | .stepObserveMasterFrame now inp => ⟨.op8, [0x01#8], now, inp⟩
  | .stepValidateMasterFrame now inp => ⟨.op8, [0x01#8], now, inp⟩
  | .stepAwaitHeaterReplyToMaster now inp => ⟨.op8, [0x01#8], now, inp⟩
  | .stepValidateHeaterReplyToMaster now inp => ⟨.op8, [0x01#8], now, inp⟩
  | .stepReportMasterExchange now inp => ⟨.op8, [0x01#8], now, inp⟩
  | .stepTransmitSelf now inp => ⟨.op8, [0x01#8], now, inp⟩
  | .stepAwaitHeaterReplyToSelf now inp => ⟨.op8, [0x01#8], now, inp⟩
  | .stepValidateHeaterReplyToSelf now inp => ⟨.op8, [0x01#8], now, inp⟩
  | .stepReportSelfExchange now inp => ⟨.op8, [0x01#8], now, inp⟩
  | .stepHousekeeping now inp => ⟨.op8, [0x01#8], now, inp⟩
  | .recycle => Line.ofCode [0x02#8]
  | .reset t0 => Line.atTime [0x0F#8] t0
  | .crc16 data => Line.ofCode (0x10#8 :: encData data)
  | .setCrc x => Line.ofCode (0x11#8 :: x.toList)
  | .verifyCrc x => Line.ofCode (0x12#8 :: x.toList)
  | .parse x role => Line.ofCode (0x13#8 :: (x.toList ++ [roleCode role]))
  | .serialize f => Line.ofCode (0x14#8 :: roleCode f.role :: encFrame f)
  | .getCHeader f => Line.ofCode (0x15#8 :: 0x00#8 :: 0x00#8 :: encFrame f)
  | .setCHeader x v => Line.ofCode (0x16#8 :: 0x00#8 :: 0x00#8 :: (x.toList ++ [v]))
  | .getCLength f => Line.ofCode (0x15#8 :: 0x00#8 :: 0x01#8 :: encFrame f)
  | .setCLength x v => Line.ofCode (0x16#8 :: 0x00#8 :: 0x01#8 :: (x.toList ++ [v]))
  | .getCCommand f => Line.ofCode (0x15#8 :: 0x00#8 :: 0x02#8 :: encFrame f)
  | .setCCommand x v => Line.ofCode (0x16#8 :: 0x00#8 :: 0x02#8 :: (x.toList ++ [v]))
  | .getCActualTemperature f => Line.ofCode (0x15#8 :: 0x00#8 :: 0x03#8 :: encFrame f)
  | .setCActualTemperature x v => Line.ofCode (0x16#8 :: 0x00#8 :: 0x03#8 :: (x.toList ++ encInt v))
  | .getCDesiredDemand f view => Line.ofCode (0x15#8 :: 0x00#8 :: 0x04#8 :: viewCode view :: encFrame f)
  | .setCDesiredDemand x view v => Line.ofCode (0x16#8 :: 0x00#8 :: 0x04#8 :: viewCode view :: (x.toList ++ encInt v))
  | .getCPumpMinFreq f => Line.ofCode (0x15#8 :: 0x00#8 :: 0x05#8 :: encFrame f)
  | .setCPumpMinFreq x p => Line.ofCode (0x16#8 :: 0x00#8 :: 0x05#8 :: (x.toList ++ encRat p))
  | .getCPumpMaxFreq f => Line.ofCode (0x15#8 :: 0x00#8 :: 0x06#8 :: encFrame f)
  | .setCPumpMaxFreq x p => Line.ofCode (0x16#8 :: 0x00#8 :: 0x06#8 :: (x.toList ++ encRat p))
  | .getCFanMinRPM f => Line.ofCode (0x15#8 :: 0x00#8 :: 0x07#8 :: encFrame f)
  | .setCFanMinRPM x v => Line.ofCode (0x16#8 :: 0x00#8 :: 0x07#8 :: (x.toList ++ encInt v))
  | .getCFanMaxRPM f => Line.ofCode (0x15#8 :: 0x00#8 :: 0x09#8 :: encFrame f)
  | .setCFanMaxRPM x v => Line.ofCode (0x16#8 :: 0x00#8 :: 0x09#8 :: (x.toList ++ encInt v))
  | .getCOperatingVoltage f => Line.ofCode (0x15#8 :: 0x00#8 :: 0x0B#8 :: encFrame f)
  | .setCOperatingVoltage x p => Line.ofCode (0x16#8 :: 0x00#8 :: 0x0B#8 :: (x.toList ++ encRat p))
  | .getCFanSensorSelect f => Line.ofCode (0x15#8 :: 0x00#8 :: 0x0C#8 :: encFrame f)
  | .setCFanSensorSelect x v => Line.ofCode (0x16#8 :: 0x00#8 :: 0x0C#8 :: (x.toList ++ [v]))
  | .getCOperatingMode f => Line.ofCode (0x15#8 :: 0x00#8 :: 0x0D#8 :: encFrame f)
  | .setCOperatingMode x v => Line.ofCode (0x16#8 :: 0x00#8 :: 0x0D#8 :: (x.toList ++ [v]))
  | .getCMinTemperature f => Line.ofCode (0x15#8 :: 0x00#8 :: 0x0E#8 :: encFrame f)
  | .setCMinTemperature x v => Line.ofCode (0x16#8 :: 0x00#8 :: 0x0E#8 :: (x.toList ++ encInt v))
  | .getCMaxTemperature f => Line.ofCode (0x15#8 :: 0x00#8 :: 0x0F#8 :: encFrame f)
  | .setCMaxTemperature x v => Line.ofCode (0x16#8 :: 0x00#8 :: 0x0F#8 :: (x.toList ++ encInt v))
  | .getCGlowDrive f => Line.ofCode (0x15#8 :: 0x00#8 :: 0x10#8 :: encFrame f)
  | .setCGlowDrive x v => Line.ofCode (0x16#8 :: 0x00#8 :: 0x10#8 :: (x.toList ++ [v]))
  | .getCPrime f => Line.ofCode (0x15#8 :: 0x00#8 :: 0x11#8 :: encFrame f)
  | .setCPrime x v => Line.ofCode (0x16#8 :: 0x00#8 :: 0x11#8 :: (x.toList ++ [v]))
  | .getCReserved f => Line.ofCode (0x15#8 :: 0x00#8 :: 0x12#8 :: encFrame f)
  | .setCReserved x v => Line.ofCode (0x16#8 :: 0x00#8 :: 0x12#8 :: (x.toList ++ v.toList))
  | .getCCrc f => Line.ofCode (0x15#8 :: 0x00#8 :: 0x16#8 :: encFrame f)
  | .getHHeader f => Line.ofCode (0x15#8 :: 0x01#8 :: 0x00#8 :: encFrame f)
  | .setHHeader x v => Line.ofCode (0x16#8 :: 0x01#8 :: 0x00#8 :: (x.toList ++ [v]))
  | .getHLength f => Line.ofCode (0x15#8 :: 0x01#8 :: 0x01#8 :: encFrame f)
  | .setHLength x v => Line.ofCode (0x16#8 :: 0x01#8 :: 0x01#8 :: (x.toList ++ [v]))
  | .getHRunState f => Line.ofCode (0x15#8 :: 0x01#8 :: 0x02#8 :: encFrame f)
  | .setHRunState x v => Line.ofCode (0x16#8 :: 0x01#8 :: 0x02#8 :: (x.toList ++ [v]))
  | .getHErrState f => Line.ofCode (0x15#8 :: 0x01#8 :: 0x03#8 :: encFrame f)
  | .setHErrState x v => Line.ofCode (0x16#8 :: 0x01#8 :: 0x03#8 :: (x.toList ++ [v]))
  | .getHSupplyVoltage f => Line.ofCode (0x15#8 :: 0x01#8 :: 0x04#8 :: encFrame f)
  | .setHSupplyVoltage x p => Line.ofCode (0x16#8 :: 0x01#8 :: 0x04#8 :: (x.toList ++ encRat p))
  | .getHFanRPM f => Line.ofCode (0x15#8 :: 0x01#8 :: 0x06#8 :: encFrame f)
  | .setHFanRPM x v => Line.ofCode (0x16#8 :: 0x01#8 :: 0x06#8 :: (x.toList ++ encInt v))
  | .getHFanVoltage f => Line.ofCode (0x15#8 :: 0x01#8 :: 0x08#8 :: encFrame f)
  | .setHFanVoltage x p => Line.ofCode (0x16#8 :: 0x01#8 :: 0x08#8 :: (x.toList ++ encRat p))
  | .getHHeatExchgTemp f => Line.ofCode (0x15#8 :: 0x01#8 :: 0x0A#8 :: encFrame f)
  | .setHHeatExchgTemp x v => Line.ofCode (0x16#8 :: 0x01#8 :: 0x0A#8 :: (x.toList ++ encInt v))
  | .getHGlowVoltage f => Line.ofCode (0x15#8 :: 0x01#8 :: 0x0C#8 :: encFrame f)
  | .setHGlowVoltage x p => Line.ofCode (0x16#8 :: 0x01#8 :: 0x0C#8 :: (x.toList ++ encRat p))
  | .getHGlowCurrent f => Line.ofCode (0x15#8 :: 0x01#8 :: 0x0E#8 :: encFrame f)
  | .setHGlowCurrent x p => Line.ofCode (0x16#8 :: 0x01#8 :: 0x0E#8 :: (x.toList ++ encRat p))
  | .getHActualPumpFreq f => Line.ofCode (0x15#8 :: 0x01#8 :: 0x10#8 :: encFrame f)
  | .setHActualPumpFreq x p => Line.ofCode (0x16#8 :: 0x01#8 :: 0x10#8 :: (x.toList ++ encRat p))
  | .getHStoredErrorCode f => Line.ofCode (0x15#8 :: 0x01#8 :: 0x11#8 :: encFrame f)
  | .setHStoredErrorCode x v => Line.ofCode (0x16#8 :: 0x01#8 :: 0x11#8 :: (x.toList ++ [v]))
  | .getHReserved f => Line.ofCode (0x15#8 :: 0x01#8 :: 0x12#8 :: encFrame f)
  | .setHReserved x v => Line.ofCode (0x16#8 :: 0x01#8 :: 0x12#8 :: (x.toList ++ v.toList))
  | .getHCrc f => Line.ofCode (0x15#8 :: 0x01#8 :: 0x16#8 :: encFrame f)
  | .txConfig startDelay frontPorch frameTime =>
    Line.ofCode (0x20#8 :: (encNat startDelay ++ (encNat frontPorch ++ encNat frameTime)))
  | .txStart now => Line.atTime [0x21#8] now
  | .txCheck now => Line.atTime [0x22#8] now
  | .prepareFrame basis selfIsMaster inp => Line.withInp (0x23#8 :: (basis.toList ++ encBool selfIsMaster)) inp
  | .composeDisabled x inp => Line.withInp (0x30#8 :: x.toList) inp
  | .composeStandard x inp => Line.withInp (0x31#8 :: x.toList) inp
  | .composeWindowed x inp => Line.withInp (0x32#8 :: x.toList) inp
  | .composeLinearHz x inp => Line.withInp (0x33#8 :: x.toList) inp
  | .sfiUpdate next => Line.ofCode [0x40#8, next]
  | .sfiInhibit => Line.ofCode [0x41#8]
  | .sfiReset => Line.ofCode [0x42#8]
  | .checkVolts f inp => Line.withInp (0x43#8 :: encFrame f) inp
  | .reqOn set => Line.ofCode (0x50#8 :: encBool set)
  | .reqOff set => Line.ofCode (0x51#8 :: encBool set)
  | .reqRaw b => Line.ofCode [0x52#8, b]
  | .rdOemFrame => Line.ofCode [0x58#8]
  | .rdHtrFrame => Line.ofCode [0x59#8]
  | .rdFault => Line.ofCode [0x5A#8]
  | .rdStatus => Line.ofCode [0x5B#8]
  | .frameController x => ⟨.frame24 .controller, x.toList, 0, Inp.zero⟩
  | .frameHeater x => ⟨.frame24 .heater, x.toList, 0, Inp.zero⟩

/-- The bytes of a table word, least significant byte first, followed by `zeros` operand bytes of zeros. -/
def tableBytes (nbits w zeros : Nat) : List Byte :=
  (List.range ((nbits + 7) / 8)).map (fun k => BitVec.ofNat 8 ((w % 2 ^ nbits) >>> (8 * k))) ++ List.replicate zeros 0#8

/-- The line of a table word: the 192 bits of a frame layout, or an operation number with operand bytes of zeros, as many
as the operation has (entry 3). -/
def tableLine (nbits w : Nat) : Line :=
  if nbits = 192 then ⟨.frame24 .controller, tableBytes nbits w 0, 0, Inp.zero⟩
  else
    let bytes := tableBytes nbits w 32
    match decodeOp .idle 0 Inp.zero bytes with
    | .error _ => Line.ofCode bytes
    | .ok (_, rest) => Line.ofCode (bytes.take (bytes.length - rest.length))

/-- The operation the decoder reads from a table word, in the state of reset (entry 3). -/
def decodeTableWord (nbits w : Nat) : Option Instr :=
  match decode .idle (tableLine nbits w) with
  | .ok i => some i
  | .error _ => none

end Sys2Proof
end

