-- ==== Sys2Proof/Machine/State.lean ====
section
/-! DEFINITION. The state of the block, everything 10_state.md gives it, with the ways a run can stop and the machine right
after reset (10_state.md R44). -/

namespace Sys2Proof.Machine

/-- A frame and the time it was captured (10_state.md R31). -/
structure Stamped where
  frame : Frame
  time : Nat
deriving DecidableEq, Repr

/-- The CommandQueue (10_state.md R29). -/
structure CommandQueue where
  on : Bool
  off : Bool
  raw : Option Byte
deriving DecidableEq, Repr

/-- The SmartErrorState (10_state.md R30). -/
structure SmartError where
  prev : Byte
  code : InferredCode
  inhibited : Bool
deriving DecidableEq, Repr

/-- Reasons the sticky `fault` register can hold (10_state.md R37, 60_exceptions.md R262). -/
inductive FaultReason where
  | startWhileActive
  | checkWithoutStart
deriving DecidableEq, Repr

/-- Event outputs (10_state.md R41). -/
inductive Event where
  /-- `TX_WRITE(bytes)`: the physical write (R182). -/
  | txWrite (bytes : Raw)
  /-- `RECYCLE`: reinitialisation of the receive path (R154). -/
  | recycle
  /-- `ERR(1, bytes)`: `FrameCrcMismatch` (R256). -/
  | frameCrcMismatch (bytes : Raw)
  /-- `ERR(2, (st, idx))`: `FrameCollectionTimeout` (R257). -/
  | frameCollectionTimeout (st : BusState) (idx : Nat)
  /-- `LOG_TIMEOUT`: a moderated log line (R270). -/
  | logTimeout
deriving DecidableEq, Repr

/-- What `TX_CHECK` reports (R182). -/
inductive TxProgress where
  | busy
  | done
deriving DecidableEq, Repr

/-- The status record of `RD_STATUS` (R243). -/
structure Status where
  master : BusMaster
  heaterResponding : Bool
  oemKind : OemKind
  recycleCount : BitVec 32
  st : BusState
  gate : Bool
  fault : Option FaultReason
deriving DecidableEq, Repr

/-- The controller-role layout read field by field (R81, R120 to R136). -/
structure ControllerFields where
  header : Byte
  length : Byte
  command : Byte
  actualTemperature : Int
  desiredDemand : Byte
  pumpMinFreq : ℚ
  pumpMaxFreq : ℚ
  fanMinRPM : Nat
  fanMaxRPM : Nat
  operatingVoltage : ℚ
  fanSensorSelect : Byte
  operatingMode : Byte
  minTemperature : Nat
  maxTemperature : Nat
  glowDrive : Byte
  prime : Byte
  reserved : Vector Byte 4
  crc : Half
deriving DecidableEq, Repr

/-- The heater-role layout read field by field (R82, R137 to R149). -/
structure HeaterFields where
  header : Byte
  length : Byte
  runState : Byte
  errState : Byte
  supplyVoltage : ℚ
  fanRPM : Nat
  fanVoltage : ℚ
  heatExchgTemp : Nat
  glowVoltage : ℚ
  glowCurrent : ℚ
  actualPumpFreq : ℚ
  storedErrorCode : Byte
  reserved : Vector Byte 4
  crc : Half
deriving DecidableEq, Repr

/-- The value an operation returns. -/
inductive Result where
  /-- The operation returns nothing. -/
  | none
  /-- An unscaled byte field. -/
  | byte (v : Byte)
  /-- An unsigned count. -/
  | count (v : Nat)
  /-- A temperature in whole degrees C, by `TEMP_BYTE_SIGNED` (R123). -/
  | degrees (v : Int)
  /-- A scaled field in its physical unit (R117). -/
  | physical (v : ℚ)
  /-- Four uninterpreted bytes (R136, R149). -/
  | quad (v : Vector Byte 4)
  /-- A checksum (R110). -/
  | crc (v : Half)
  /-- A Bool (R114). -/
  | bool (v : Bool)
  /-- 24 bytes (R113, R118, R119, R200). -/
  | raw (x : Raw)
  /-- An optional frame (R115). -/
  | parsed (f : Option Frame)
  /-- The frame of `PREPARE_FRAME` (R183). -/
  | prepared (f : Frame)
  /-- The report of `TX_CHECK` (R182). -/
  | tx (p : TxProgress)
  /-- A published snapshot (R238, R239). -/
  | snapshot (f : Option Stamped)
  /-- The inferred code with `errState` and `storedErrorCode` (R240, R242). -/
  | faults (code : InferredCode) (rawCodes : Option (Byte × Byte))
  /-- The status record (R243). -/
  | status (v : Status)
  /-- The controller layout of 24 validated bytes (R81; entry 16). -/
  | controllerFields (v : Option ControllerFields)
  /-- The heater layout of 24 validated bytes (R82; entry 16). -/
  | heaterFields (v : Option HeaterFields)
deriving DecidableEq, Repr

/-- Programming errors that stop the machine (60_exceptions.md R262 (c) and (d)). -/
inductive Fault where
  /-- Code 18, raised by `construct` and so by `TX_CONFIG`: "construction with such values must be rejected", so there is no
  engine to go on with (R10, R180, R262 (c)). Safe. -/
  | invalidConfig
  /-- Code 19, raised by an accessor, `SERIALIZE` or `CHECK_VOLTS` whose operand is not a validated frame of its role: the
  spec excludes the call by typing (R116; entry 13). Safe. -/
  | accessorOnUnvalidated
deriving DecidableEq, Repr

/-- Where the spec gives an operation no meaning on its operands. -/
inductive Refusal where
  /-- Raised by `exec` for a row without a meaning; no arm uses it. Safe. -/
  | notModelled (mnemonic : String)
  /-- Code 32, raised by a `SET`, by `tbyte` and by a pass that prepares a master frame from such inputs (R117, R206,
  R261). Safe. -/
  | fieldRange
  /-- Code 33, raised by `COMPOSE.LINEARHZ` and by a pass that runs it (R204, R261). Safe. -/
  | composerDomain
  /-- Raised by an operation whose `now` is less than an earlier one: `STEP` is not defined there (R151, U12; entry 7).
  Safe. -/
  | timeRanBack
  /-- Raised by a row of `STEP` in a state that selects another row (R151, R92; entry 9). Safe. -/
  | rowNotSelected
  /-- Raised by `ReportMasterExchange` when no OEM frame was ever published: unreachable (R162; entry 17). Safe. -/
  | noObservedFrame
  /-- Raised by `TX_CONFIG` after reset release, or when it has run before: "It runs once, before reset release; the three
  values never change afterwards" (R180; entry 31). Safe. -/
  | configClosed
  /-- Raised by the fetch when a line names no operation: "Unassigned numbers name no operation" (R91). Safe. -/
  | undecodable (e : DecodeError)
deriving DecidableEq, Repr

/-- The state: every element of 10_state.md R44, the configuration (entry 4), and the model's own fields `configOpen` (entry
31), `clock` (entry 7), `script` (entry 1), `events` and `result` (entry 8). -/
structure State where
  /-- The configuration record (R8, R39), valid by its type (R10, U1). -/
  cfg : ValidCfg
  /-- The state register (R24). -/
  st : BusState
  /-- The bus master (R25). -/
  master : BusMaster
  /-- The time of the last bus byte (R26). -/
  tLast : Nat
  /-- The time `ReportMasterExchange` was entered (R35). -/
  tReport : Nat
  /-- Bytes collected so far (R23). -/
  idx : Nat
  /-- The OEM-observed frame (R22). -/
  bufOEM : Raw
  /-- The heater reply to the OEM controller (R22). -/
  bufHM : Raw
  /-- The heater reply to self (R22). -/
  bufHS : Raw
  /-- The outgoing frame (R22). -/
  txBuf : Raw
  /-- Bytes delivered and not yet polled, oldest first (R27). -/
  rxFifo : List Byte
  /-- Start of the transmit cycle in flight (R28). -/
  txStart : Option Nat
  /-- The "pending write" mark (R28). -/
  pending : Bool
  /-- The bus-gate signal, true = asserted (R28). -/
  gate : Bool
  /-- The CommandQueue (R29). -/
  cq : CommandQueue
  /-- The SmartErrorState (R30). -/
  sfi : SmartError
  /-- Latest validated OEM controller frame (R31). -/
  pubOEM : Option Stamped
  /-- Latest validated heater reply (R31). -/
  pubHtr : Option Stamped
  /-- Kind of OEM controller (R32). -/
  oemKind : OemKind
  /-- Whether the heater responds (R33). -/
  heaterResponding : Bool
  /-- Recycle counter, modulo 2^32 (R34). -/
  recycleCount : BitVec 32
  /-- Time of the last timeout log (R36). -/
  tLog : Option Nat
  /-- The sticky fault register (R37). -/
  fault : Option FaultReason
  /-- MODEL: `TX_CONFIG` may still run: it has not run, and reset has not been released (R180; entry 31). -/
  configOpen : Bool
  /-- MODEL: the latest time supplied (R11, R151; entry 7). -/
  clock : Nat
  /-- MODEL: the environment's pending operations, next first (R20, R95; entry 1). -/
  script : List Line
  /-- MODEL: the event outputs of the latest operation, in order (R41; entry 8). -/
  events : List Event
  /-- MODEL: the value the latest operation returned (entry 8). -/
  result : Result
deriving DecidableEq, Repr

/-- The machine right after reset: the table of R44 with `t0` = 0 (entry 5), on configuration TC1 (entry 4), with the
buffers, whose value R44 leaves unspecified, zero (entry 6), nothing pending (entry 1), and the engine's first operation
still to come (entry 31). -/
def State.reset : State where
  cfg := ⟨Cfg.tc1, Cfg.tc1_valid⟩
  st := .idle
  master := .none
  tLast := 0
  tReport := 0
  idx := 0
  bufOEM := Raw.zero
  bufHM := Raw.zero
  bufHS := Raw.zero
  txBuf := Raw.zero
  rxFifo := []
  txStart := .none
  pending := false
  gate := false
  cq := ⟨false, false, .none⟩
  sfi := ⟨0#8, .none, false⟩
  pubOEM := .none
  pubHtr := .none
  oemKind := .none
  heaterResponding := false
  recycleCount := 0#32
  tLog := .none
  fault := .none
  configOpen := true
  clock := 0
  script := []
  events := []
  result := .none

end Sys2Proof.Machine
end

