-- ==== Sys2Proof/Machine/Operands.lean ====
section
/-! DEFINITION. Operand forms: rounding, the field forms that `GET` and `SET` share, and the temperature byte
(40_codec_crc.md R117, R119, R123; 43_demand_composer.md R206; 30_encoding.md R90). -/

namespace Sys2Proof.Machine

/-- `rnd(x) = floor(x + 1/2)` (R12, R117). -/
def rnd (x : ℚ) : Int := ⌊x + 1 / 2⌋

/-- `clamp(x, lo, hi) = max(lo, min(hi, x))` (R12). -/
def clamp (x lo hi : ℚ) : ℚ := max lo (min hi x)

/-- `|x|` (R12). -/
def absQ (x : ℚ) : ℚ := if x < 0 then -x else x

/-- `sgn(x)`: -1, 0 or +1 (R12). -/
def sgn (x : ℚ) : Int := if x < 0 then -1 else if 0 < x then 1 else 0

/-- `GET` of an unscaled byte (R119). -/
def getByte (off : Fin 24) (x : Raw) : Byte := x[off]

/-- `GET` of an unsigned count of one byte (R132, R133). -/
def getCount8 (off : Fin 24) (x : Raw) : Nat := x[off].toNat

/-- `GET` of an unsigned count of two bytes, hi then lo (R90, R119). -/
def getCount16 (hi lo : Fin 24) (x : Raw) : Nat := (memRead2 x hi lo).toNat

/-- `GET` of a one-byte scaled field with `perUnit` counts to the unit: the count times the unit, exactly (R117). -/
def getScaled8 (off : Fin 24) (perUnit : ℚ) (x : Raw) : ℚ := (getCount8 off x : ℚ) / perUnit

/-- `GET` of a two-byte scaled field (R117). -/
def getScaled16 (hi lo : Fin 24) (perUnit : ℚ) (x : Raw) : ℚ := (getCount16 hi lo x : ℚ) / perUnit

/-- A temperature byte in degrees: two's complement when `TEMP_BYTE_SIGNED` (R123). -/
def degreesOf (signed : Bool) (b : Byte) : Int := if signed then b.toInt else b.toNat

/-- `GET` of the four reserved bytes 18 to 21 (R136, R149). -/
def getReserved (x : Raw) : Vector Byte 4 := #v[x[18], x[19], x[20], x[21]]

/-- `SET` of an unscaled byte (R119). -/
def setByte (off : Fin 24) (v : Byte) (x : Raw) : Raw := x.set off v

/-- `SET` of a one-byte count: refused outside 0 to 255 (R117, D47). -/
def setCount8 (off : Fin 24) (v : Int) (x : Raw) : Except Refusal Raw :=
  if 0 ≤ v ∧ v ≤ 255 then .ok (x.set off (BitVec.ofInt 8 v)) else .error .fieldRange

/-- `SET` of a two-byte count, hi then lo: refused outside 0 to 65535 (R117, R119, D47). -/
def setCount16 (hi lo : Fin 24) (v : Int) (x : Raw) : Except Refusal Raw :=
  if 0 ≤ v ∧ v ≤ 65535 then .ok (memWrite2 x hi lo (BitVec.ofInt 16 v)) else .error .fieldRange

/-- `SET` of a one-byte scaled field: `rnd(p / u)` counts, with `perUnit = 1 / u` (R117). -/
def setScaled8 (off : Fin 24) (perUnit p : ℚ) (x : Raw) : Except Refusal Raw := setCount8 off (rnd (p * perUnit)) x

/-- `SET` of a two-byte scaled field (R117). -/
def setScaled16 (hi lo : Fin 24) (perUnit p : ℚ) (x : Raw) : Except Refusal Raw :=
  setCount16 hi lo (rnd (p * perUnit)) x

/-- `tbyte(v)`: an integer temperature as a wire byte, refused outside the byte's range (R206, D25). -/
def tbyte (signed : Bool) (v : Int) : Except Refusal Byte :=
  if signed then
    if -128 ≤ v ∧ v ≤ 127 then .ok (BitVec.ofInt 8 v) else .error .fieldRange
  else
    if 0 ≤ v ∧ v ≤ 255 then .ok (BitVec.ofInt 8 v) else .error .fieldRange

/-- `SET` of a temperature byte (R123). -/
def setDegrees (off : Fin 24) (signed : Bool) (v : Int) (x : Raw) : Except Refusal Raw :=
  match tbyte signed v with
  | .ok b => .ok (x.set off b)
  | .error e => .error e

/-- `SET` of the four reserved bytes (R119, R136, R149). -/
def setReserved (v : Vector Byte 4) (x : Raw) : Raw := (((x.set 18 v[0]).set 19 v[1]).set 20 v[2]).set 21 v[3]

end Sys2Proof.Machine
end

