-- ==== Sys2Proof/Machine/Flags.lean ====
section
/-! DEFINITION. The flags of 10_state.md R38: the CommandQueue and the SmartErrorState, and every rule that sets or clears
them (44_smart_fault.md R215 to R218; 45_host_interface.md R235 to R237). -/

namespace Sys2Proof.Machine

/-- `REQ_ON(set)` (R235): setting On clears Off. -/
def requestOn (set : Bool) (q : CommandQueue) : CommandQueue :=
  if set then ⟨true, false, q.raw⟩ else ⟨false, q.off, q.raw⟩

/-- `REQ_OFF(set)` (R236): setting Off clears On. -/
def requestOff (set : Bool) (q : CommandQueue) : CommandQueue :=
  if set then ⟨false, true, q.raw⟩ else ⟨q.on, false, q.raw⟩

/-- `REQ_RAW(b)` (R237): one slot, the later byte replaces the earlier. -/
def requestRaw (b : Byte) (q : CommandQueue) : CommandQueue := ⟨q.on, q.off, some b⟩

/-- The raw override consumed by the frame that carries it (R66, R183). -/
def consumeRaw (q : CommandQueue) : CommandQueue := ⟨q.on, q.off, none⟩

/-- Steps 2 and 3 of `SFI_UPDATE` (R215): a run state of 2 or more cancels On; of 7 or more, or 0, cancels Off. -/
def cancelTaken (next : Byte) (q : CommandQueue) : CommandQueue :=
  ⟨if next ≥ 2#8 then false else q.on, if next ≥ 7#8 ∨ next = 0#8 then false else q.off, q.raw⟩

/-- Step 1 of `SFI_UPDATE` (R215), with `prev` as it was. -/
def inferCode (next : Byte) (e : SmartError) : SmartError :=
  if e.prev = 0#8 ∧ next ≠ 0#8 then ⟨e.prev, .none, false⟩
  else if ¬ e.inhibited ∧ e.prev = 2#8 then
    if next = 4#8 then ⟨e.prev, .none, e.inhibited⟩
    else if next = 3#8 then ⟨e.prev, .ignitionRetry, e.inhibited⟩
    else if next > 5#8 then ⟨e.prev, .ignitionFail, e.inhibited⟩
    else e
  else e

/-- `SFI_UPDATE(next)` (R215). -/
def sfiUpdate (next : Byte) (s : State) : State :=
  let e := inferCode next s.sfi
  { s with sfi := ⟨next, e.code, e.inhibited⟩, cq := cancelTaken next s.cq }

/-- `SFI_INHIBIT` (R216). -/
def sfiInhibit (s : State) : State := { s with sfi := ⟨s.sfi.prev, s.sfi.code, true⟩ }

/-- `SFI_RESET` (R217). -/
def sfiReset (s : State) : State := { s with sfi := ⟨s.sfi.prev, .none, false⟩ }

/-- The compensated voltage of `CHECK_VOLTS` (R218): the cable drop is added back. -/
def compensatedVolts (kCable : ℚ) (x : Raw) : ℚ := getScaled16 4 5 10 x + kCable * getScaled16 14 15 100 x

/-- `CHECK_VOLTS(f, inp)` on the bytes of `f` (R218): strictly below the threshold, the code is LowVolts and Off is
requested. -/
def checkVolts (x : Raw) (inp : Inp) (s : State) : State :=
  if compensatedVolts s.cfg.kCable x < inp.lowVoltThreshold then
    { s with sfi := ⟨s.sfi.prev, .lowVolts, s.sfi.inhibited⟩, cq := requestOff true s.cq }
  else s

end Sys2Proof.Machine
end

