-- ==== Sys2Proof/Machine/Ops.lean ====
section
/-! DEFINITION. The operations on the state that the meanings share: outputs, time, the poll phase, collection into the
receive buffers, recycle, and the one recovery of 60_exceptions.md R265 with its return R266. -/

namespace Sys2Proof.Machine

/-- The start of an operation on the engine: its output list and its returned value are empty (R41; entry 8), and the time
of `TX_CONFIG`, before reset release, is over (R180; entry 31). -/
def fresh (s : State) : State := { s with configOpen := false, events := [], result := .none }

/-- An operation whose only effect is the value it returns. -/
def answer (r : Result) (s : State) : State := { s with events := [], result := r }

/-- `emit ev` (R13): one more event on the operation's list. -/
def emit (e : Event) (s : State) : State := { s with events := s.events ++ [e] }

/-- `now` of an operation (R11, R151): refused when it is less than an earlier one; else it is the latest time. -/
def tick (now : Nat) (s : State) (k : State → Host.Outcome State Fault Refusal) :
    Host.Outcome State Fault Refusal :=
  if now < s.clock then .refused .timeRanBack else k { fresh s with clock := now }

/-- What a pass took from the FIFO: a byte and the silence before it (R152). -/
abbrev Rx := Option (Byte × Nat)

/-- The byte the poll phase takes, with the gap before it (R152). -/
def polled (now : Nat) (s : State) : Rx :=
  match s.rxFifo with
  | [] => none
  | b :: _ => some (b, now - s.tLast)

/-- The state after the poll phase (R152): at most one byte is taken, and a byte taken sets `tLast`. -/
def poll (now : Nat) (s : State) : State :=
  match s.rxFifo with
  | [] => s
  | _ :: rest => { s with rxFifo := rest, tLast := now }

/-- The receive buffers (R22, R153). -/
inductive RxBuf where
  | oem
  | hm
  | hs
deriving DecidableEq, Repr

/-- The contents of a receive buffer. -/
def rxBytes (which : RxBuf) (s : State) : Raw :=
  match which with
  | .oem => s.bufOEM
  | .hm => s.bufHM
  | .hs => s.bufHS

/-- `buf[i] <- b`; there is no byte outside 0 to 23 (R64; entry 23). -/
def rxStore (which : RxBuf) (i : Nat) (b : Byte) (s : State) : State :=
  match which with
  | .oem => { s with bufOEM := s.bufOEM.setIfInBounds i b }
  | .hm => { s with bufHM := s.bufHM.setIfInBounds i b }
  | .hs => { s with bufHS := s.bufHS.setIfInBounds i b }

/-- `RECYCLE` (R154). -/
def recycle (s : State) : State :=
  emit .recycle { s with rxFifo := [], idx := 0, recycleCount := s.recycleCount + 1#32 }

/-- The recovery that codes 1 and 2 share (R265): the error is reported, a heater wait or check that failed clears
`heaterResponding`, the receive path is recycled, and control goes to `Housekeeping`. Nothing is saved. -/
def recover (heaterWait : Bool) (err : Event) (s : State) : State :=
  { recycle (emit err { s with heaterResponding := s.heaterResponding && !heaterWait }) with st := .housekeeping }

/-- The return from recovery (R266): `Housekeeping` moves on to `Idle`. -/
def resume (s : State) : State := { s with st := .idle }

/-- The moderated timeout log (R270). -/
def logTimeout (now : Nat) (s : State) : State :=
  match s.tLog with
  | none => emit .logTimeout { s with tLog := some now }
  | some t => if now - t ≥ tLogMod then emit .logTimeout { s with tLog := some now } else s

/-- `TIMEOUT(heaterWait)` (R156). -/
def timeout (heaterWait : Bool) (now : Nat) (s : State) : State :=
  recover heaterWait (.frameCollectionTimeout s.st s.idx) (logTimeout now s)

/-- `COLLECT(buf, next, heaterWait)` (R155): a byte wins over the timeout, whatever gap preceded it. -/
def collect (which : RxBuf) (next : BusState) (heaterWait : Bool) (now : Nat) (rx : Rx) (s : State) : State :=
  match rx with
  | some (b, _) =>
    let s' := { rxStore which s.idx b s with idx := s.idx + 1 }
    if s'.idx = 24 then { s' with st := next } else s'
  | none => if now - s.tLast > s.cfg.tData then timeout heaterWait now s else s

/-- The construction of an engine's configuration (R10, R262 (c)): a record that breaks a constraint is rejected, and there
is no engine. -/
def construct (c : Cfg) : Except Fault ValidCfg :=
  if h : c.valid = true then .ok ⟨c, h⟩ else .error .invalidConfig

/-- `RESET(t0)` (R244): every element of R44 at its reset value, on the configuration the engine was built with; the
operations still pending stay pending (entry 28), and reset is released (entry 31). -/
def resetTo (t0 : Nat) (s : State) : State :=
  { State.reset with cfg := s.cfg, script := s.script, tLast := t0, tReport := t0, clock := t0, configOpen := false }

/-- The next operation of the environment and what is pending after it; no pending line, no operation (U24; entry 27). -/
def fetch (s : State) : Option (Except DecodeError Instr × State) :=
  match s.script with
  | [] => none
  | l :: rest => some (decode s.st l, { s with script := rest })

end Sys2Proof.Machine
end

