-- ==== Sys2Proof/Machine/Composer.lean ====
section
/-! DEFINITION. The Demand/Thermostat Composer (43_demand_composer.md R200 to R207): it writes bytes 13, 3 and 4 of the
working copy and nothing else. -/

namespace Sys2Proof.Machine

/-- `operatingMode` with the thermostat flag on (R85). -/
def modeThermostat : Byte := 0x32#8

/-- `operatingMode` with the thermostat flag off (R85). -/
def modeFixed : Byte := 0xCD#8

/-- The three bytes a case of the composer writes: 13, 3, 4 (R200). -/
def writeDemand (mode actual demand : Byte) (x : Raw) : Raw := ((x.set 13 mode).set 3 actual).set 4 demand

/-- `COMPOSE.DISABLED` (R201). -/
def composeDisabled (inp : Inp) (x : Raw) : Raw := writeDemand modeFixed 0x00#8 inp.fixedDemand x

/-- A reported and a desired temperature written under the thermostat flag (R202, R205): `tbyte` of each. -/
def reportTemperature (signed : Bool) (reported desired : Int) (x : Raw) : Except Refusal Raw := do
  let actual ← tbyte signed reported
  let demand ← tbyte signed desired
  return writeDemand modeThermostat actual demand x

/-- `COMPOSE.STANDARD` (R202). -/
def composeStandard (signed : Bool) (inp : Inp) (x : Raw) : Except Refusal Raw :=
  reportTemperature signed (rnd inp.sensed) (rnd inp.desired) x

/-- The temperature `COMPOSE.WINDOWED` reports (R205): hold, nudge, or the sensed one. -/
def windowedReport (inp : Inp) : Int :=
  let d := inp.sensed - inp.desired
  if absQ d < inp.window / 2 then rnd inp.desired
  else if absQ d ≤ 1 then rnd inp.desired + sgn d
  else rnd inp.sensed

/-- `COMPOSE.WINDOWED` (R205). -/
def composeWindowed (signed : Bool) (inp : Inp) (x : Raw) : Except Refusal Raw :=
  reportTemperature signed (windowedReport inp) (rnd inp.desired) x

/-- The demand of `COMPOSE.LINEARHZ` before rounding (R204), for a demand range (R203). -/
def linearDemand (inp : Inp) (dmin dmax : ℚ) : ℚ :=
  let fraction := (inp.sensed - inp.desired) / (inp.window / 2)
  let midpoint := (dmax + dmin) / 2
  clamp (midpoint - fraction * (dmax - midpoint)) dmin dmax

/-- `COMPOSE.LINEARHZ` (R204): the demand range is bytes 14 and 15 of the working copy (R203). -/
def composeLinearHz (inp : Inp) (x : Raw) : Except Refusal Raw :=
  if inp.window / 2 ≤ 0 ∨ getCount8 14 x > getCount8 15 x then .error .composerDomain
  else
    .ok (writeDemand modeFixed 0x00#8 (BitVec.ofInt 8 (rnd (linearDemand inp (getCount8 14 x) (getCount8 15 x)))) x)

/-- `COMPOSE(f, inp)` (R200). -/
def compose (signed : Bool) (inp : Inp) (x : Raw) : Except Refusal Raw :=
  if inp.thermoEnable then
    match inp.method with
    | .standard => composeStandard signed inp x
    | .windowedHysteresis => composeWindowed signed inp x
    | .linearHz => composeLinearHz inp x
  else .ok (composeDisabled inp x)

/-- An operation that returns a working copy, or is refused. -/
def answerRaw (r : Except Refusal Raw) (s : State) : Host.Outcome State Fault Refusal :=
  match r with
  | .ok x => .next (answer (.raw x) s)
  | .error e => .refused e

/-- `COMPOSE.DISABLED` on its own (R201). -/
def execComposeDisabled (x : Raw) (inp : Inp) (s : State) : Host.Outcome State Fault Refusal :=
  answerRaw (.ok (composeDisabled inp x)) s

/-- `COMPOSE.STANDARD` on its own (R202). -/
def execComposeStandard (x : Raw) (inp : Inp) (s : State) : Host.Outcome State Fault Refusal :=
  answerRaw (composeStandard s.cfg.tempByteSigned inp x) s

/-- `COMPOSE.WINDOWED` on its own (R205). -/
def execComposeWindowed (x : Raw) (inp : Inp) (s : State) : Host.Outcome State Fault Refusal :=
  answerRaw (composeWindowed s.cfg.tempByteSigned inp x) s

/-- `COMPOSE.LINEARHZ` on its own (R203, R204). -/
def execComposeLinearHz (x : Raw) (inp : Inp) (s : State) : Host.Outcome State Fault Refusal :=
  answerRaw (composeLinearHz inp x) s

end Sys2Proof.Machine
end

