-- ==== Sys2Proof/Machine/Scheduler.lean ====
section
/-! DEFINITION. The Transmit Scheduler and frame preparation (42_tx_scheduler.md R180 to R186). -/

namespace Sys2Proof.Machine

/-- The "active" header byte (R83). -/
def headerActive : Byte := 0x76#8

/-- The "passive" header byte (R83). -/
def headerPassive : Byte := 0x78#8

/-- `TX_START(now)` (R181): rejected, with the sticky reason, while a cycle is in flight. -/
def txStart (now : Nat) (s : State) : State :=
  match s.txStart with
  | some _ => { s with fault := some .startWhileActive }
  | none => { s with txStart := some now, pending := true }

/-- The first clause of `TX_CHECK` (R182): assert the gate. -/
def assertGate (e : Nat) (s : State) : State := if e > s.cfg.tStartDelay then { s with gate := true } else s

/-- The second clause of `TX_CHECK` (R182): the physical write, once. -/
def writePending (e : Nat) (s : State) : State :=
  if s.pending ∧ e > s.cfg.tStartDelay + s.cfg.tFrontPorch then emit (.txWrite s.txBuf) { s with pending := false }
  else s

/-- The third clause of `TX_CHECK` (R182): release the gate and end the cycle. -/
def releaseGate (s : State) : State := { s with gate := false, txStart := none }

/-- What `TX_CHECK(now)` reports (R182): without a cycle, done (R262 (b)). -/
def txProgress (now : Nat) (s : State) : TxProgress :=
  match s.txStart with
  | none => .done
  | some t => if now - t > s.cfg.tFrameTime then .done else .busy

/-- The state after `TX_CHECK(now)` (R182): the three clauses in order, or the sticky reason without a cycle. -/
def txCheck (now : Nat) (s : State) : State :=
  match s.txStart with
  | none => { s with fault := some .checkWithoutStart }
  | some t =>
    let s' := writePending (now - t) (assertGate (now - t) s)
    if now - t > s.cfg.tFrameTime then releaseGate s' else s'

/-- The command byte of a prepared frame (R183): the raw override wins over On, On over Off (R264 (g)). It replaces the
basis's command byte when parroting too: DESIGN CHOICE between R183 and R94's "kept when parroting" (entry 30). -/
def commandByte (cfg : Cfg) (q : CommandQueue) : Byte :=
  match q.raw with
  | some r => r
  | none => if q.on then cfg.cmdOn else if q.off then cfg.cmdOff else cmdNone

/-- The tuning fields a master frame takes from the TuningSnapshot, in the order of R183. -/
def setTuning (inp : Inp) (x : Raw) : Except Refusal Raw := do
  let x ← setScaled8 5 10 inp.pumpMin x
  let x ← setScaled8 6 10 inp.pumpMax x
  let x ← setCount16 7 8 inp.fanMin x
  let x ← setCount16 9 10 inp.fanMax x
  let x ← setScaled8 11 10 inp.sysVoltage x
  return setByte 16 inp.glowDrive (setByte 12 inp.sensorSelect x)

/-- `PREPARE_FRAME(basis, selfIsMaster, inp)` (R183): the bytes of the frame. The raw override it consumes is `consumeRaw`. The
basis's command byte is replaced on both paths, as R183's pseudocode and R14 say; R94's table and U10 say that a received
command is kept when parroting: DESIGN CHOICE (entry 30). -/
def prepareFrame (cfg : Cfg) (q : CommandQueue) (basis : Raw) (selfIsMaster : Bool) (inp : Inp) :
    Except Refusal Raw :=
  let f := setByte 2 (commandByte cfg q) basis
  if selfIsMaster then do
    let f ← setTuning inp (setByte 0 headerActive f)
    let f ← compose cfg.tempByteSigned inp f
    return setCrc f
  else .ok (setCrc (setByte 0 headerPassive f))

/-- `PREPARE_FRAME` into `txBuf`, then `TX_START`, then `TransmitSelf`: how `Idle` and `ReportMasterExchange` begin a
transmission (R157, R162). Inputs for which `PREPARE_FRAME` has no meaning leave the pass without one (R261). -/
def transmit (basis : Raw) (selfIsMaster : Bool) (now : Nat) (inp : Inp) (s : State) :
    Host.Outcome State Fault Refusal :=
  match prepareFrame s.cfg.toCfg s.cq basis selfIsMaster inp with
  | .error e => .refused e
  | .ok f => .next { txStart now { s with txBuf := f, cq := consumeRaw s.cq } with st := .transmitSelf }

/-- `TX_CONFIG(startDelay, frontPorch, frameTime)` (R180): once, before reset release (entry 31), the engine is constructed
with these intervals, or rejected (entry 11). -/
def execTxConfig (startDelay frontPorch frameTime : Nat) (s : State) : Host.Outcome State Fault Refusal :=
  if s.configOpen then
    match construct (s.cfg.toCfg.withIntervals startDelay frontPorch frameTime) with
    | .ok c => .next { fresh s with cfg := c }
    | .error e => .fault e
  else .refused .configClosed

/-- `TX_START(now)` on its own (R181, R186). -/
def execTxStart (now : Nat) (s : State) : Host.Outcome State Fault Refusal :=
  tick now s fun s => .next (txStart now s)

/-- `TX_CHECK(now)` on its own (R182, R186): it returns its report. -/
def execTxCheck (now : Nat) (s : State) : Host.Outcome State Fault Refusal :=
  tick now s fun s => .next { txCheck now s with result := .tx (txProgress now s) }

/-- `PREPARE_FRAME` on its own (R183): it consumes the raw override and returns the frame; storing it in `txBuf` is the
caller's (entry 10). -/
def execPrepareFrame (basis : Raw) (selfIsMaster : Bool) (inp : Inp) (s : State) :
    Host.Outcome State Fault Refusal :=
  match prepareFrame s.cfg.toCfg s.cq basis selfIsMaster inp with
  | .error e => .refused e
  | .ok f => .next { fresh s with cq := consumeRaw s.cq, result := .prepared ⟨f, .controller⟩ }

end Sys2Proof.Machine
end

