-- ==== Sys2Proof/Machine/BusSync.lean ====
section
/-! DEFINITION. The Bus Synchronization State Machine (41_bus_sync.md R150 to R172): the arrival of a byte, and one rule of
`STEP` per state. -/

namespace Sys2Proof.Machine

/-- One pass in the state of a row (R151): the poll phase, then the row's rule once. A row that the state does not select
has no meaning (R92; entry 9). -/
def pass (row : BusState) (now : Nat) (s : State) (rule : Rx → State → Host.Outcome State Fault Refusal) :
    Host.Outcome State Fault Refusal :=
  if s.st = row then tick now s fun s => rule (polled now s) (poll now s) else .refused .rowNotSelected

/-- `SELECT_BASIS()` (R163): the last observed OEM frame, however old, else the built-in default. -/
def selectBasis (s : State) : Raw :=
  match s.pubOEM with
  | some p => p.frame.bytes
  | none => s.cfg.defaultBasis

/-- The rule of `Idle` (R157): silence is tested first, after the poll phase. -/
def idleRule (now : Nat) (inp : Inp) (rx : Rx) (s : State) : Host.Outcome State Fault Refusal :=
  if now - s.tLast > s.cfg.tSilence then transmit (selectBasis s) true now inp { s with master := .self }
  else
    match rx with
    | some (b, gap) =>
      if gap > s.cfg.tData then .next { rxStore .oem 0 b s with idx := 1, st := .observeMasterFrame } else .next s
    | none => .next s

/-- The classification of the OEM controller by its header byte (R83, R159). -/
def classifyOem (header : Byte) : OemKind :=
  if header = headerActive then .active else if header = headerPassive then .passive else .unknown

/-- The rule of `ValidateMasterFrame` (R159). -/
def validateMasterRule (now : Nat) (s : State) : State :=
  match parse s.bufOEM .controller with
  | some f =>
    { s with pubOEM := some ⟨f, now⟩, oemKind := classifyOem f.bytes[0], master := .oem, idx := 0,
             st := .awaitHeaterReplyToMaster }
  | none => recover false (.frameCrcMismatch s.bufOEM) s

/-- A validated heater reply (R161, R166): published, then fault inference, then the voltage check (R264 (f)). -/
def acceptReply (f : Frame) (now : Nat) (inp : Inp) (s : State) : State :=
  checkVolts f.bytes inp
    (sfiUpdate f.bytes[2] { s with pubHtr := some ⟨f, now⟩, heaterResponding := true })

/-- The rule of `ValidateHeaterReplyToMaster` (R161). -/
def validateReplyToMasterRule (now : Nat) (inp : Inp) (s : State) : State :=
  match parse s.bufHM .heater with
  | some f => { acceptReply f now inp s with tReport := now, st := .reportMasterExchange }
  | none => recover true (.frameCrcMismatch s.bufHM) s

/-- The rule of `ReportMasterExchange` (R162): after the report delay, parrot the OEM frame of this exchange. That there is
one is an invariant of the machine; without one there is nothing to parrot (entry 17). -/
def reportMasterRule (now : Nat) (inp : Inp) (s : State) : Host.Outcome State Fault Refusal :=
  if now - s.tReport ≥ s.cfg.tReportDelay then
    match s.pubOEM with
    | some p => transmit p.frame.bytes false now inp s
    | none => .refused .noObservedFrame
  else .next s

/-- The rule of `TransmitSelf` (R164): the end of the engine's own transmission counts as bus activity. -/
def transmitSelfRule (now : Nat) (s : State) : State :=
  match txProgress now s with
  | .done => { txCheck now s with tLast := now, idx := 0, st := .awaitHeaterReplyToSelf }
  | .busy => txCheck now s

/-- The rule of `ValidateHeaterReplyToSelf` (R166). -/
def validateReplyToSelfRule (now : Nat) (inp : Inp) (s : State) : State :=
  match parse s.bufHS .heater with
  | some f => { acceptReply f now inp s with st := .reportSelfExchange }
  | none => recover true (.frameCrcMismatch s.bufHS) s

/-- `BUS_RX(b)` (R150). -/
def execBusRx (b : Byte) (s : State) : Host.Outcome State Fault Refusal :=
  .next { fresh s with rxFifo := s.rxFifo ++ [b] }

/-- `STEP.Idle` (R157). -/
def execStepIdle (now : Nat) (inp : Inp) (s : State) : Host.Outcome State Fault Refusal :=
  pass .idle now s fun rx s => idleRule now inp rx s

/-- `STEP.ObserveMasterFrame` (R158). -/
def execStepObserveMasterFrame (now : Nat) (s : State) : Host.Outcome State Fault Refusal :=
  pass .observeMasterFrame now s fun rx s => .next (collect .oem .validateMasterFrame false now rx s)

/-- `STEP.ValidateMasterFrame` (R159). -/
def execStepValidateMasterFrame (now : Nat) (s : State) : Host.Outcome State Fault Refusal :=
  pass .validateMasterFrame now s fun _ s => .next (validateMasterRule now s)

/-- `STEP.AwaitHeaterReplyToMaster` (R160). -/
def execStepAwaitHeaterReplyToMaster (now : Nat) (s : State) : Host.Outcome State Fault Refusal :=
  pass .awaitHeaterReplyToMaster now s fun rx s => .next (collect .hm .validateHeaterReplyToMaster true now rx s)

/-- `STEP.ValidateHeaterReplyToMaster` (R161). -/
def execStepValidateHeaterReplyToMaster (now : Nat) (inp : Inp) (s : State) : Host.Outcome State Fault Refusal :=
  pass .validateHeaterReplyToMaster now s fun _ s => .next (validateReplyToMasterRule now inp s)

/-- `STEP.ReportMasterExchange` (R162). -/
def execStepReportMasterExchange (now : Nat) (inp : Inp) (s : State) : Host.Outcome State Fault Refusal :=
  pass .reportMasterExchange now s fun _ s => reportMasterRule now inp s

/-- `STEP.TransmitSelf` (R164). -/
def execStepTransmitSelf (now : Nat) (s : State) : Host.Outcome State Fault Refusal :=
  pass .transmitSelf now s fun _ s => .next (transmitSelfRule now s)

/-- `STEP.AwaitHeaterReplyToSelf` (R165). -/
def execStepAwaitHeaterReplyToSelf (now : Nat) (s : State) : Host.Outcome State Fault Refusal :=
  pass .awaitHeaterReplyToSelf now s fun rx s => .next (collect .hs .validateHeaterReplyToSelf true now rx s)

/-- `STEP.ValidateHeaterReplyToSelf` (R166). -/
def execStepValidateHeaterReplyToSelf (now : Nat) (inp : Inp) (s : State) : Host.Outcome State Fault Refusal :=
  pass .validateHeaterReplyToSelf now s fun _ s => .next (validateReplyToSelfRule now inp s)

/-- `STEP.ReportSelfExchange` (R167). -/
def execStepReportSelfExchange (now : Nat) (s : State) : Host.Outcome State Fault Refusal :=
  pass .reportSelfExchange now s fun _ s => .next { s with st := .housekeeping }

/-- `STEP.Housekeeping` (R168, R266). -/
def execStepHousekeeping (now : Nat) (s : State) : Host.Outcome State Fault Refusal :=
  pass .housekeeping now s fun _ s => .next (resume s)

/-- `RECYCLE` on its own (R154; entry 10). -/
def execRecycle (s : State) : Host.Outcome State Fault Refusal := .next (recycle (fresh s))

end Sys2Proof.Machine
end

