-- ==== Sys2Proof/Machine/HostInterface.lean ====
section
/-! DEFINITION. The host interface (45_host_interface.md R235 to R244). -/

namespace Sys2Proof.Machine

/-- `REQ_ON(set)` (R235). -/
def execReqOn (set : Bool) (s : State) : Host.Outcome State Fault Refusal :=
  .next { fresh s with cq := requestOn set s.cq }

/-- `REQ_OFF(set)` (R236). -/
def execReqOff (set : Bool) (s : State) : Host.Outcome State Fault Refusal :=
  .next { fresh s with cq := requestOff set s.cq }

/-- `REQ_RAW(b)` (R237). -/
def execReqRaw (b : Byte) (s : State) : Host.Outcome State Fault Refusal :=
  .next { fresh s with cq := requestRaw b s.cq }

/-- `RD_OEM_FRAME` (R238). -/
def execRdOemFrame (s : State) : Host.Outcome State Fault Refusal := .next (answer (.snapshot s.pubOEM) s)

/-- `RD_HTR_FRAME` (R239). -/
def execRdHtrFrame (s : State) : Host.Outcome State Fault Refusal := .next (answer (.snapshot s.pubHtr) s)

/-- The raw heater error codes (R242): `errState` and `storedErrorCode` of the published heater frame. -/
def rawErrorCodes (s : State) : Option (Byte × Byte) :=
  match s.pubHtr with
  | some p => some (p.frame.bytes[3], p.frame.bytes[17])
  | none => none

/-- `RD_FAULT` (R240). -/
def execRdFault (s : State) : Host.Outcome State Fault Refusal := .next (answer (.faults s.sfi.code (rawErrorCodes s)) s)

/-- The status record (R243). -/
def statusOf (s : State) : Status where
  master := s.master
  heaterResponding := s.heaterResponding
  oemKind := s.oemKind
  recycleCount := s.recycleCount
  st := s.st
  gate := s.gate
  fault := s.fault

/-- `RD_STATUS` (R243). -/
def execRdStatus (s : State) : Host.Outcome State Fault Refusal := .next (answer (.status (statusOf s)) s)

/-- `RESET(t0)` (R244). -/
def execReset (t0 : Nat) (s : State) : Host.Outcome State Fault Refusal := .next (resetTo t0 s)

end Sys2Proof.Machine
end

