-- ==== Sys2Proof/Machine/Codec.lean ====
section
/-! DEFINITION. The Frame Codec and CRC Engine as operations (40_codec_crc.md R110 to R119): each returns a value and
changes nothing else. -/

namespace Sys2Proof.Machine

/-- An operation on a validated frame of a role (R116, R119): on any other operand it is the programming error of R262 (d)
(entry 13). -/
def onFrame (role : Role) (f : Frame) (k : Raw → Result) (s : State) : Host.Outcome State Fault Refusal :=
  if f.valid role then .next (answer (k f.bytes) s) else .fault .accessorOnUnvalidated

/-- `CRC16(data)` (R110). -/
def execCrc16 (data : List Byte) (s : State) : Host.Outcome State Fault Refusal := .next (answer (.crc (crc16 data)) s)

/-- `SET_CRC(x)` (R113). -/
def execSetCrc (x : Raw) (s : State) : Host.Outcome State Fault Refusal := .next (answer (.raw (setCrc x)) s)

/-- `VERIFY_CRC(x)` (R114). -/
def execVerifyCrc (x : Raw) (s : State) : Host.Outcome State Fault Refusal := .next (answer (.bool (verifyCrc x)) s)

/-- `PARSE(x, role)` (R115). -/
def execParse (x : Raw) (role : Role) (s : State) : Host.Outcome State Fault Refusal :=
  .next (answer (.parsed (parse x role)) s)

/-- `SERIALIZE(f)` (R118). -/
def execSerialize (f : Frame) (s : State) : Host.Outcome State Fault Refusal :=
  onFrame f.role f (fun x => .raw (serialize ⟨x, f.role⟩)) s

end Sys2Proof.Machine
end

