-- ==== Sys2Proof/Machine/ControllerFields.lean ====
section
/-! DEFINITION. `GET` and `SET` of the controller role, one definition per field (40_codec_crc.md R120 to R136 under the template
R119 and the scaling R117). A `GET` reads a validated frame of the role; a `SET` returns the changed working copy and never
touches bytes 22 and 23. -/

namespace Sys2Proof.Machine

/-- A `SET`: it returns the changed working copy, or is refused when the value does not fit its field (R117, R119). -/
def onCopy (r : Except Refusal Raw) (s : State) : Host.Outcome State Fault Refusal :=
  match r with
  | .ok x => .next (answer (.raw x) s)
  | .error e => .refused e

/-- `GET.C.header` (R120). -/
def execGetCHeader (f : Frame) (s : State) : Host.Outcome State Fault Refusal :=
  onFrame .controller f (fun x => .byte (getByte 0 x)) s

/-- `SET.C.header` (R120). -/
def execSetCHeader (x : Raw) (v : Byte) (s : State) : Host.Outcome State Fault Refusal :=
  onCopy (.ok (setByte 0 v x)) s

/-- `GET.C.length` (R121). -/
def execGetCLength (f : Frame) (s : State) : Host.Outcome State Fault Refusal :=
  onFrame .controller f (fun x => .byte (getByte 1 x)) s

/-- `SET.C.length` (R121). -/
def execSetCLength (x : Raw) (v : Byte) (s : State) : Host.Outcome State Fault Refusal :=
  onCopy (.ok (setByte 1 v x)) s

/-- `GET.C.command` (R122). -/
def execGetCCommand (f : Frame) (s : State) : Host.Outcome State Fault Refusal :=
  onFrame .controller f (fun x => .byte (getByte 2 x)) s

/-- `SET.C.command` (R122). -/
def execSetCCommand (x : Raw) (v : Byte) (s : State) : Host.Outcome State Fault Refusal :=
  onCopy (.ok (setByte 2 v x)) s

/-- `GET.C.actualTemperature` (R123). -/
def execGetCActualTemperature (f : Frame) (s : State) : Host.Outcome State Fault Refusal :=
  onFrame .controller f (fun x => .degrees (degreesOf s.cfg.tempByteSigned (getByte 3 x))) s

/-- `SET.C.actualTemperature` (R123). -/
def execSetCActualTemperature (x : Raw) (v : Int) (s : State) : Host.Outcome State Fault Refusal :=
  onCopy (setDegrees 3 s.cfg.tempByteSigned v x) s

/-- `GET.C.desiredDemand` (R124): the overloaded byte, as a temperature or as the Hz-proxy. -/
def execGetCDesiredDemand (f : Frame) (view : DemandView) (s : State) : Host.Outcome State Fault Refusal :=
  match view with
  | .temperature => onFrame .controller f (fun x => .degrees (degreesOf s.cfg.tempByteSigned (getByte 4 x))) s
  | .hzProxy => onFrame .controller f (fun x => .count (getCount8 4 x)) s

/-- `SET.C.desiredDemand` (R124): the overloaded byte, as a temperature or as the Hz-proxy. -/
def execSetCDesiredDemand (x : Raw) (view : DemandView) (v : Int) (s : State) : Host.Outcome State Fault Refusal :=
  match view with
  | .temperature => onCopy (setDegrees 4 s.cfg.tempByteSigned v x) s
  | .hzProxy => onCopy (setCount8 4 v x) s

/-- `GET.C.pumpMinFreq` (R125). -/
def execGetCPumpMinFreq (f : Frame) (s : State) : Host.Outcome State Fault Refusal :=
  onFrame .controller f (fun x => .physical (getScaled8 5 10 x)) s

/-- `SET.C.pumpMinFreq` (R125). -/
def execSetCPumpMinFreq (x : Raw) (p : ℚ) (s : State) : Host.Outcome State Fault Refusal :=
  onCopy (setScaled8 5 10 p x) s

/-- `GET.C.pumpMaxFreq` (R126). -/
def execGetCPumpMaxFreq (f : Frame) (s : State) : Host.Outcome State Fault Refusal :=
  onFrame .controller f (fun x => .physical (getScaled8 6 10 x)) s

/-- `SET.C.pumpMaxFreq` (R126). -/
def execSetCPumpMaxFreq (x : Raw) (p : ℚ) (s : State) : Host.Outcome State Fault Refusal :=
  onCopy (setScaled8 6 10 p x) s

/-- `GET.C.fanMinRPM` (R127). -/
def execGetCFanMinRPM (f : Frame) (s : State) : Host.Outcome State Fault Refusal :=
  onFrame .controller f (fun x => .count (getCount16 7 8 x)) s

/-- `SET.C.fanMinRPM` (R127). -/
def execSetCFanMinRPM (x : Raw) (v : Int) (s : State) : Host.Outcome State Fault Refusal :=
  onCopy (setCount16 7 8 v x) s

/-- `GET.C.fanMaxRPM` (R128). -/
def execGetCFanMaxRPM (f : Frame) (s : State) : Host.Outcome State Fault Refusal :=
  onFrame .controller f (fun x => .count (getCount16 9 10 x)) s

/-- `SET.C.fanMaxRPM` (R128). -/
def execSetCFanMaxRPM (x : Raw) (v : Int) (s : State) : Host.Outcome State Fault Refusal :=
  onCopy (setCount16 9 10 v x) s

/-- `GET.C.operatingVoltage` (R129). -/
def execGetCOperatingVoltage (f : Frame) (s : State) : Host.Outcome State Fault Refusal :=
  onFrame .controller f (fun x => .physical (getScaled8 11 10 x)) s

/-- `SET.C.operatingVoltage` (R129). -/
def execSetCOperatingVoltage (x : Raw) (p : ℚ) (s : State) : Host.Outcome State Fault Refusal :=
  onCopy (setScaled8 11 10 p x) s

/-- `GET.C.fanSensorSelect` (R130). -/
def execGetCFanSensorSelect (f : Frame) (s : State) : Host.Outcome State Fault Refusal :=
  onFrame .controller f (fun x => .byte (getByte 12 x)) s

/-- `SET.C.fanSensorSelect` (R130). -/
def execSetCFanSensorSelect (x : Raw) (v : Byte) (s : State) : Host.Outcome State Fault Refusal :=
  onCopy (.ok (setByte 12 v x)) s

/-- `GET.C.operatingMode` (R131). -/
def execGetCOperatingMode (f : Frame) (s : State) : Host.Outcome State Fault Refusal :=
  onFrame .controller f (fun x => .byte (getByte 13 x)) s

/-- `SET.C.operatingMode` (R131). -/
def execSetCOperatingMode (x : Raw) (v : Byte) (s : State) : Host.Outcome State Fault Refusal :=
  onCopy (.ok (setByte 13 v x)) s

/-- `GET.C.minTemperature` (R132). -/
def execGetCMinTemperature (f : Frame) (s : State) : Host.Outcome State Fault Refusal :=
  onFrame .controller f (fun x => .count (getCount8 14 x)) s

/-- `SET.C.minTemperature` (R132). -/
def execSetCMinTemperature (x : Raw) (v : Int) (s : State) : Host.Outcome State Fault Refusal :=
  onCopy (setCount8 14 v x) s

/-- `GET.C.maxTemperature` (R133). -/
def execGetCMaxTemperature (f : Frame) (s : State) : Host.Outcome State Fault Refusal :=
  onFrame .controller f (fun x => .count (getCount8 15 x)) s

/-- `SET.C.maxTemperature` (R133). -/
def execSetCMaxTemperature (x : Raw) (v : Int) (s : State) : Host.Outcome State Fault Refusal :=
  onCopy (setCount8 15 v x) s

/-- `GET.C.glowDrive` (R134). -/
def execGetCGlowDrive (f : Frame) (s : State) : Host.Outcome State Fault Refusal :=
  onFrame .controller f (fun x => .byte (getByte 16 x)) s

/-- `SET.C.glowDrive` (R134). -/
def execSetCGlowDrive (x : Raw) (v : Byte) (s : State) : Host.Outcome State Fault Refusal :=
  onCopy (.ok (setByte 16 v x)) s

/-- `GET.C.prime` (R135). -/
def execGetCPrime (f : Frame) (s : State) : Host.Outcome State Fault Refusal :=
  onFrame .controller f (fun x => .byte (getByte 17 x)) s

/-- `SET.C.prime` (R135). -/
def execSetCPrime (x : Raw) (v : Byte) (s : State) : Host.Outcome State Fault Refusal :=
  onCopy (.ok (setByte 17 v x)) s

/-- `GET.C.reserved` (R136). -/
def execGetCReserved (f : Frame) (s : State) : Host.Outcome State Fault Refusal :=
  onFrame .controller f (fun x => .quad (getReserved x)) s

/-- `SET.C.reserved` (R136). -/
def execSetCReserved (x : Raw) (v : Vector Byte 4) (s : State) : Host.Outcome State Fault Refusal :=
  onCopy (.ok (setReserved v x)) s

/-- `GET` of the controller's `crc` (R119), set only by `SET_CRC`. -/
def execGetCCrc (f : Frame) (s : State) : Host.Outcome State Fault Refusal :=
  onFrame .controller f (fun x => .crc (storedCrc x)) s

end Sys2Proof.Machine
end

