-- ==== Sys2Proof/Machine/HeaterFields.lean ====
section
/-! DEFINITION. `GET` and `SET` of the heater role, one definition per field (40_codec_crc.md R137 to R149 under the template
R119 and the scaling R117). A `GET` reads a validated frame of the role; a `SET` returns the changed working copy and never
touches bytes 22 and 23. -/

namespace Sys2Proof.Machine

/-- `GET.H.header` (R137). -/
def execGetHHeader (f : Frame) (s : State) : Host.Outcome State Fault Refusal :=
  onFrame .heater f (fun x => .byte (getByte 0 x)) s

/-- `SET.H.header` (R137). -/
def execSetHHeader (x : Raw) (v : Byte) (s : State) : Host.Outcome State Fault Refusal :=
  onCopy (.ok (setByte 0 v x)) s

/-- `GET.H.length` (R138). -/
def execGetHLength (f : Frame) (s : State) : Host.Outcome State Fault Refusal :=
  onFrame .heater f (fun x => .byte (getByte 1 x)) s

/-- `SET.H.length` (R138). -/
def execSetHLength (x : Raw) (v : Byte) (s : State) : Host.Outcome State Fault Refusal :=
  onCopy (.ok (setByte 1 v x)) s

/-- `GET.H.runState` (R139). -/
def execGetHRunState (f : Frame) (s : State) : Host.Outcome State Fault Refusal :=
  onFrame .heater f (fun x => .byte (getByte 2 x)) s

/-- `SET.H.runState` (R139). -/
def execSetHRunState (x : Raw) (v : Byte) (s : State) : Host.Outcome State Fault Refusal :=
  onCopy (.ok (setByte 2 v x)) s

/-- `GET.H.errState` (R140). -/
def execGetHErrState (f : Frame) (s : State) : Host.Outcome State Fault Refusal :=
  onFrame .heater f (fun x => .byte (getByte 3 x)) s

/-- `SET.H.errState` (R140). -/
def execSetHErrState (x : Raw) (v : Byte) (s : State) : Host.Outcome State Fault Refusal :=
  onCopy (.ok (setByte 3 v x)) s

/-- `GET.H.supplyVoltage` (R141). -/
def execGetHSupplyVoltage (f : Frame) (s : State) : Host.Outcome State Fault Refusal :=
  onFrame .heater f (fun x => .physical (getScaled16 4 5 10 x)) s

/-- `SET.H.supplyVoltage` (R141). -/
def execSetHSupplyVoltage (x : Raw) (p : ℚ) (s : State) : Host.Outcome State Fault Refusal :=
  onCopy (setScaled16 4 5 10 p x) s

/-- `GET.H.fanRPM` (R142). -/
def execGetHFanRPM (f : Frame) (s : State) : Host.Outcome State Fault Refusal :=
  onFrame .heater f (fun x => .count (getCount16 6 7 x)) s

/-- `SET.H.fanRPM` (R142). -/
def execSetHFanRPM (x : Raw) (v : Int) (s : State) : Host.Outcome State Fault Refusal :=
  onCopy (setCount16 6 7 v x) s

/-- `GET.H.fanVoltage` (R143). -/
def execGetHFanVoltage (f : Frame) (s : State) : Host.Outcome State Fault Refusal :=
  onFrame .heater f (fun x => .physical (getScaled16 8 9 10 x)) s

/-- `SET.H.fanVoltage` (R143). -/
def execSetHFanVoltage (x : Raw) (p : ℚ) (s : State) : Host.Outcome State Fault Refusal :=
  onCopy (setScaled16 8 9 10 p x) s

/-- `GET.H.heatExchgTemp` (R144). -/
def execGetHHeatExchgTemp (f : Frame) (s : State) : Host.Outcome State Fault Refusal :=
  onFrame .heater f (fun x => .count (getCount16 10 11 x)) s

/-- `SET.H.heatExchgTemp` (R144). -/
def execSetHHeatExchgTemp (x : Raw) (v : Int) (s : State) : Host.Outcome State Fault Refusal :=
  onCopy (setCount16 10 11 v x) s

/-- `GET.H.glowVoltage` (R145). -/
def execGetHGlowVoltage (f : Frame) (s : State) : Host.Outcome State Fault Refusal :=
  onFrame .heater f (fun x => .physical (getScaled16 12 13 10 x)) s

/-- `SET.H.glowVoltage` (R145). -/
def execSetHGlowVoltage (x : Raw) (p : ℚ) (s : State) : Host.Outcome State Fault Refusal :=
  onCopy (setScaled16 12 13 10 p x) s

/-- `GET.H.glowCurrent` (R146). -/
def execGetHGlowCurrent (f : Frame) (s : State) : Host.Outcome State Fault Refusal :=
  onFrame .heater f (fun x => .physical (getScaled16 14 15 100 x)) s

/-- `SET.H.glowCurrent` (R146). -/
def execSetHGlowCurrent (x : Raw) (p : ℚ) (s : State) : Host.Outcome State Fault Refusal :=
  onCopy (setScaled16 14 15 100 p x) s

/-- `GET.H.actualPumpFreq` (R147). -/
def execGetHActualPumpFreq (f : Frame) (s : State) : Host.Outcome State Fault Refusal :=
  onFrame .heater f (fun x => .physical (getScaled8 16 10 x)) s

/-- `SET.H.actualPumpFreq` (R147). -/
def execSetHActualPumpFreq (x : Raw) (p : ℚ) (s : State) : Host.Outcome State Fault Refusal :=
  onCopy (setScaled8 16 10 p x) s

/-- `GET.H.storedErrorCode` (R148). -/
def execGetHStoredErrorCode (f : Frame) (s : State) : Host.Outcome State Fault Refusal :=
  onFrame .heater f (fun x => .byte (getByte 17 x)) s

/-- `SET.H.storedErrorCode` (R148). -/
def execSetHStoredErrorCode (x : Raw) (v : Byte) (s : State) : Host.Outcome State Fault Refusal :=
  onCopy (.ok (setByte 17 v x)) s

/-- `GET.H.reserved` (R149). -/
def execGetHReserved (f : Frame) (s : State) : Host.Outcome State Fault Refusal :=
  onFrame .heater f (fun x => .quad (getReserved x)) s

/-- `SET.H.reserved` (R149). -/
def execSetHReserved (x : Raw) (v : Vector Byte 4) (s : State) : Host.Outcome State Fault Refusal :=
  onCopy (.ok (setReserved v x)) s

/-- `GET` of the heater's `crc` (R119), set only by `SET_CRC`. -/
def execGetHCrc (f : Frame) (s : State) : Host.Outcome State Fault Refusal :=
  onFrame .heater f (fun x => .crc (storedCrc x)) s

end Sys2Proof.Machine
end

