-- ==== Sys2Proof/Machine/Layout.lean ====
section
/-! DEFINITION. The two frame layouts as operations (30_encoding.md R81, R82; entry 16): 24 bytes read field by field in the
layout of a role, when they pass `VERIFY_CRC` (R116). -/

namespace Sys2Proof.Machine

/-- The controller layout (R81). -/
def controllerLayout (signed : Bool) (x : Raw) : ControllerFields where
  header := getByte 0 x
  length := getByte 1 x
  command := getByte 2 x
  actualTemperature := degreesOf signed (getByte 3 x)
  desiredDemand := getByte 4 x
  pumpMinFreq := getScaled8 5 10 x
  pumpMaxFreq := getScaled8 6 10 x
  fanMinRPM := getCount16 7 8 x
  fanMaxRPM := getCount16 9 10 x
  operatingVoltage := getScaled8 11 10 x
  fanSensorSelect := getByte 12 x
  operatingMode := getByte 13 x
  minTemperature := getCount8 14 x
  maxTemperature := getCount8 15 x
  glowDrive := getByte 16 x
  prime := getByte 17 x
  reserved := getReserved x
  crc := storedCrc x

/-- The heater layout (R82). -/
def heaterLayout (x : Raw) : HeaterFields where
  header := getByte 0 x
  length := getByte 1 x
  runState := getByte 2 x
  errState := getByte 3 x
  supplyVoltage := getScaled16 4 5 10 x
  fanRPM := getCount16 6 7 x
  fanVoltage := getScaled16 8 9 10 x
  heatExchgTemp := getCount16 10 11 x
  glowVoltage := getScaled16 12 13 10 x
  glowCurrent := getScaled16 14 15 100 x
  actualPumpFreq := getScaled8 16 10 x
  storedErrorCode := getByte 17 x
  reserved := getReserved x
  crc := storedCrc x

/-- `FRAME.Controller` (R81; entry 16). -/
def execFrameController (x : Raw) (s : State) : Host.Outcome State Fault Refusal :=
  .next (answer (.controllerFields
    ((parse x .controller).map fun f => controllerLayout s.cfg.tempByteSigned f.bytes)) s)

/-- `FRAME.Heater` (R82; entry 16). -/
def execFrameHeater (x : Raw) (s : State) : Host.Outcome State Fault Refusal :=
  .next (answer (.heaterFields ((parse x .heater).map fun f => heaterLayout f.bytes)) s)

end Sys2Proof.Machine
end

