-- ==== Sys2Proof/Machine/SmartFault.lean ====
section
/-! DEFINITION. Smart Fault Inference as operations (44_smart_fault.md R215 to R218). -/

namespace Sys2Proof.Machine

/-- `SFI_UPDATE(next)` (R215). -/
def execSfiUpdate (next : Byte) (s : State) : Host.Outcome State Fault Refusal := .next (sfiUpdate next (fresh s))

/-- `SFI_INHIBIT` (R216). -/
def execSfiInhibit (s : State) : Host.Outcome State Fault Refusal := .next (sfiInhibit (fresh s))

/-- `SFI_RESET` (R217). -/
def execSfiReset (s : State) : Host.Outcome State Fault Refusal := .next (sfiReset (fresh s))

/-- `CHECK_VOLTS(f, inp)` (R218), on a validated heater frame (R116). -/
def execCheckVolts (f : Frame) (inp : Inp) (s : State) : Host.Outcome State Fault Refusal :=
  if f.valid .heater then .next (checkVolts f.bytes inp (fresh s)) else .fault .accessorOnUnvalidated

end Sys2Proof.Machine
end

