-- ==== Sys2Proof/Machine/Dispatch.lean ====
section
/-! DEFINITION. The meaning of every operation: one arm per row of spec/opcode_table.json. -/

namespace Sys2Proof.Machine

def exec (i : Instr) (s : State) : Host.Outcome State Fault Refusal :=
  match i with
  | .busRx b => Sys2Proof.Machine.execBusRx b s
  | .stepIdle now inp => Sys2Proof.Machine.execStepIdle now inp s
  | .stepObserveMasterFrame now _ => Sys2Proof.Machine.execStepObserveMasterFrame now s
  | .stepValidateMasterFrame now _ => Sys2Proof.Machine.execStepValidateMasterFrame now s
  | .stepAwaitHeaterReplyToMaster now _ => Sys2Proof.Machine.execStepAwaitHeaterReplyToMaster now s
  | .stepValidateHeaterReplyToMaster now inp => Sys2Proof.Machine.execStepValidateHeaterReplyToMaster now inp s
  | .stepReportMasterExchange now inp => Sys2Proof.Machine.execStepReportMasterExchange now inp s
  | .stepTransmitSelf now _ => Sys2Proof.Machine.execStepTransmitSelf now s
  | .stepAwaitHeaterReplyToSelf now _ => Sys2Proof.Machine.execStepAwaitHeaterReplyToSelf now s
  | .stepValidateHeaterReplyToSelf now inp => Sys2Proof.Machine.execStepValidateHeaterReplyToSelf now inp s
  | .stepReportSelfExchange now _ => Sys2Proof.Machine.execStepReportSelfExchange now s
  | .stepHousekeeping now _ => Sys2Proof.Machine.execStepHousekeeping now s
  | .recycle => Sys2Proof.Machine.execRecycle s
  | .reset t0 => Sys2Proof.Machine.execReset t0 s
  | .crc16 data => Sys2Proof.Machine.execCrc16 data s
  | .setCrc x => Sys2Proof.Machine.execSetCrc x s
  | .verifyCrc x => Sys2Proof.Machine.execVerifyCrc x s
  | .parse x role => Sys2Proof.Machine.execParse x role s
  | .serialize f => Sys2Proof.Machine.execSerialize f s
  | .getCHeader f => Sys2Proof.Machine.execGetCHeader f s
  | .setCHeader x v => Sys2Proof.Machine.execSetCHeader x v s
  | .getCLength f => Sys2Proof.Machine.execGetCLength f s
  | .setCLength x v => Sys2Proof.Machine.execSetCLength x v s
  | .getCCommand f => Sys2Proof.Machine.execGetCCommand f s
  | .setCCommand x v => Sys2Proof.Machine.execSetCCommand x v s
  | .getCActualTemperature f => Sys2Proof.Machine.execGetCActualTemperature f s
  | .setCActualTemperature x v => Sys2Proof.Machine.execSetCActualTemperature x v s
  | .getCDesiredDemand f view => Sys2Proof.Machine.execGetCDesiredDemand f view s
  | .setCDesiredDemand x view v => Sys2Proof.Machine.execSetCDesiredDemand x view v s
  | .getCPumpMinFreq f => Sys2Proof.Machine.execGetCPumpMinFreq f s
  | .setCPumpMinFreq x p => Sys2Proof.Machine.execSetCPumpMinFreq x p s
  | .getCPumpMaxFreq f => Sys2Proof.Machine.execGetCPumpMaxFreq f s
  | .setCPumpMaxFreq x p => Sys2Proof.Machine.execSetCPumpMaxFreq x p s
  | .getCFanMinRPM f => Sys2Proof.Machine.execGetCFanMinRPM f s
  | .setCFanMinRPM x v => Sys2Proof.Machine.execSetCFanMinRPM x v s
  | .getCFanMaxRPM f => Sys2Proof.Machine.execGetCFanMaxRPM f s
  | .setCFanMaxRPM x v => Sys2Proof.Machine.execSetCFanMaxRPM x v s
  | .getCOperatingVoltage f => Sys2Proof.Machine.execGetCOperatingVoltage f s
  | .setCOperatingVoltage x p => Sys2Proof.Machine.execSetCOperatingVoltage x p s
  | .getCFanSensorSelect f => Sys2Proof.Machine.execGetCFanSensorSelect f s
  | .setCFanSensorSelect x v => Sys2Proof.Machine.execSetCFanSensorSelect x v s
  | .getCOperatingMode f => Sys2Proof.Machine.execGetCOperatingMode f s
  | .setCOperatingMode x v => Sys2Proof.Machine.execSetCOperatingMode x v s
  | .getCMinTemperature f => Sys2Proof.Machine.execGetCMinTemperature f s
  | .setCMinTemperature x v => Sys2Proof.Machine.execSetCMinTemperature x v s
  | .getCMaxTemperature f => Sys2Proof.Machine.execGetCMaxTemperature f s
  | .setCMaxTemperature x v => Sys2Proof.Machine.execSetCMaxTemperature x v s
  | .getCGlowDrive f => Sys2Proof.Machine.execGetCGlowDrive f s
  | .setCGlowDrive x v => Sys2Proof.Machine.execSetCGlowDrive x v s
  | .getCPrime f => Sys2Proof.Machine.execGetCPrime f s
  | .setCPrime x v => Sys2Proof.Machine.execSetCPrime x v s
  | .getCReserved f => Sys2Proof.Machine.execGetCReserved f s
  | .setCReserved x v => Sys2Proof.Machine.execSetCReserved x v s
  | .getCCrc f => Sys2Proof.Machine.execGetCCrc f s
  | .getHHeader f => Sys2Proof.Machine.execGetHHeader f s
  | .setHHeader x v => Sys2Proof.Machine.execSetHHeader x v s
  | .getHLength f => Sys2Proof.Machine.execGetHLength f s
  | .setHLength x v => Sys2Proof.Machine.execSetHLength x v s
  | .getHRunState f => Sys2Proof.Machine.execGetHRunState f s
  | .setHRunState x v => Sys2Proof.Machine.execSetHRunState x v s
  | .getHErrState f => Sys2Proof.Machine.execGetHErrState f s
  | .setHErrState x v => Sys2Proof.Machine.execSetHErrState x v s
  | .getHSupplyVoltage f => Sys2Proof.Machine.execGetHSupplyVoltage f s
  | .setHSupplyVoltage x p => Sys2Proof.Machine.execSetHSupplyVoltage x p s
  | .getHFanRPM f => Sys2Proof.Machine.execGetHFanRPM f s
  | .setHFanRPM x v => Sys2Proof.Machine.execSetHFanRPM x v s
  | .getHFanVoltage f => Sys2Proof.Machine.execGetHFanVoltage f s
  | .setHFanVoltage x p => Sys2Proof.Machine.execSetHFanVoltage x p s
  | .getHHeatExchgTemp f => Sys2Proof.Machine.execGetHHeatExchgTemp f s
  | .setHHeatExchgTemp x v => Sys2Proof.Machine.execSetHHeatExchgTemp x v s
  | .getHGlowVoltage f => Sys2Proof.Machine.execGetHGlowVoltage f s
  | .setHGlowVoltage x p => Sys2Proof.Machine.execSetHGlowVoltage x p s
  | .getHGlowCurrent f => Sys2Proof.Machine.execGetHGlowCurrent f s
  | .setHGlowCurrent x p => Sys2Proof.Machine.execSetHGlowCurrent x p s
  | .getHActualPumpFreq f => Sys2Proof.Machine.execGetHActualPumpFreq f s
  | .setHActualPumpFreq x p => Sys2Proof.Machine.execSetHActualPumpFreq x p s
  | .getHStoredErrorCode f => Sys2Proof.Machine.execGetHStoredErrorCode f s
  | .setHStoredErrorCode x v => Sys2Proof.Machine.execSetHStoredErrorCode x v s
  | .getHReserved f => Sys2Proof.Machine.execGetHReserved f s
  | .setHReserved x v => Sys2Proof.Machine.execSetHReserved x v s
  | .getHCrc f => Sys2Proof.Machine.execGetHCrc f s
  | .txConfig startDelay frontPorch frameTime => Sys2Proof.Machine.execTxConfig startDelay frontPorch frameTime s
  | .txStart now => Sys2Proof.Machine.execTxStart now s
  | .txCheck now => Sys2Proof.Machine.execTxCheck now s
  | .prepareFrame basis selfIsMaster inp => Sys2Proof.Machine.execPrepareFrame basis selfIsMaster inp s
  | .composeDisabled x inp => Sys2Proof.Machine.execComposeDisabled x inp s
  | .composeStandard x inp => Sys2Proof.Machine.execComposeStandard x inp s
  | .composeWindowed x inp => Sys2Proof.Machine.execComposeWindowed x inp s
  | .composeLinearHz x inp => Sys2Proof.Machine.execComposeLinearHz x inp s
  | .sfiUpdate next => Sys2Proof.Machine.execSfiUpdate next s
  | .sfiInhibit => Sys2Proof.Machine.execSfiInhibit s
  | .sfiReset => Sys2Proof.Machine.execSfiReset s
  | .checkVolts f inp => Sys2Proof.Machine.execCheckVolts f inp s
  | .reqOn set => Sys2Proof.Machine.execReqOn set s
  | .reqOff set => Sys2Proof.Machine.execReqOff set s
  | .reqRaw b => Sys2Proof.Machine.execReqRaw b s
  | .rdOemFrame => Sys2Proof.Machine.execRdOemFrame s
  | .rdHtrFrame => Sys2Proof.Machine.execRdHtrFrame s
  | .rdFault => Sys2Proof.Machine.execRdFault s
  | .rdStatus => Sys2Proof.Machine.execRdStatus s
  | .frameController x => Sys2Proof.Machine.execFrameController x s
  | .frameHeater x => Sys2Proof.Machine.execFrameHeater x s

end Sys2Proof.Machine
end

