-- ==== Sys2Proof/Machine/Step.lean ====
section
/-! DEFINITION. One step of the closed machine: the next operation of the environment is fetched, decoded and executed
(10_state.md R20, 20_memory.md R68; entry 1). -/

namespace Sys2Proof.Machine

/-- One operation of the environment. With nothing pending nothing changes (U24; entry 27); a line that names no operation
has no meaning (R91). -/
def step (s : State) : Host.Outcome State Fault Refusal :=
  match fetch s with
  | none => .next s
  | some (.error e, _) => .refused (.undecodable e)
  | some (.ok i, s') => exec i s'

/-- The state with the operation of a table word as the next line of the script (entry 3). -/
def State.withFetchWord (s : State) (nbits w : Nat) : State := { s with script := tableLine nbits w :: s.script }

end Sys2Proof.Machine
end

