-- ==== Sys2Proof/Safety.lean ====
section
/-! DEFINITION. What claims about the machine are said in: the invariants of 10_state.md R45, the input ranges of
60_exceptions.md R261, the operations of the agents (R91), sequences of passes, and what two states may differ in. -/

namespace Sys2Proof.Machine

/-- The three collecting states (R153). -/
def collecting (st : BusState) : Bool :=
  st == .observeMasterFrame || st == .awaitHeaterReplyToMaster || st == .awaitHeaterReplyToSelf

/-- The states of an OEM exchange after its OEM frame validated and before the parrot is launched (R159 to R162). -/
def exchangeOpen (st : BusState) : Bool :=
  st == .awaitHeaterReplyToMaster || st == .validateHeaterReplyToMaster || st == .reportMasterExchange

/-- A published snapshot, when present, holds a validated frame of the role (R31, R45 (f)). -/
def publishedValid (role : Role) (p : Option Stamped) : Bool :=
  match p with
  | none => true
  | some q => q.frame.valid role

/-- What every operation keeps, the sub-operations called on their own among them: R45 (a), (b), (c), (e), (f), (g), with
what they rest on. -/
structure StateInv (s : State) : Prop where
  /-- The configuration is valid (R10); its type says so (U1). -/
  cfgValid : s.cfg.valid = true
  /-- While `TX_CONFIG` may still run, no cycle is in flight (R180). -/
  openAtRest : s.configOpen = true → s.st = .idle ∧ s.txStart = none
  /-- R45 (a). -/
  oneCommand : ¬ (s.cq.on = true ∧ s.cq.off = true)
  /-- R45 (b). -/
  pendingInCycle : s.pending = true → s.txStart.isSome = true
  /-- R45 (c). -/
  gateInCycle : s.gate = true → s.txStart.isSome = true
  /-- R45 (e), the bound. -/
  idxBound : s.idx ≤ 24
  /-- R45 (e), the collecting states. -/
  idxCollecting : collecting s.st = true → s.idx < 24
  /-- R45 (f). -/
  oemValid : publishedValid .controller s.pubOEM = true
  /-- R45 (f). -/
  htrValid : publishedValid .heater s.pubHtr = true
  /-- The OEM frame of an open exchange is published (R162). -/
  observed : exchangeOpen s.st = true → s.pubOEM.isSome = true
  /-- R45 (g), with `clock` the latest `now`. -/
  tLastPast : s.tLast ≤ s.clock
  /-- No reference time lies ahead of the latest `now` (R11). -/
  tReportPast : s.tReport ≤ s.clock
  /-- No reference time lies ahead of the latest `now` (R11). -/
  txStartPast : ∀ t, s.txStart = some t → t ≤ s.clock
  /-- No reference time lies ahead of the latest `now` (R11). -/
  tLogPast : ∀ t, s.tLog = some t → t ≤ s.clock

/-- What the operations of the agents keep besides (R45 (d), R71, R186). -/
structure EngineInv (s : State) : Prop extends StateInv s where
  /-- R45 (d). -/
  cycleIffTransmit : s.txStart.isSome = true ↔ s.st = .transmitSelf
  /-- The frame in flight passes `VERIFY_CRC` (R71). -/
  txFrame : s.st = .transmitSelf → verifyCrc s.txBuf = true
  /-- No programming error (R186). -/
  noFault : s.fault = none

/-- The operations performed by agents: `BUS_RX`, `STEP`, `RESET`, the 0x5_ operations and the two host controls of fault
inference (R20, R91, R216, R217). All others are sub-operations of `STEP`. -/
def byAgent (i : Instr) : Bool :=
  match i with
  | .busRx _ | .stepIdle _ _ | .stepObserveMasterFrame _ _ | .stepValidateMasterFrame _ _ => true
  | .stepAwaitHeaterReplyToMaster _ _ | .stepValidateHeaterReplyToMaster _ _ | .stepReportMasterExchange _ _ => true
  | .stepTransmitSelf _ _ | .stepAwaitHeaterReplyToSelf _ _ | .stepValidateHeaterReplyToSelf _ _ => true
  | .stepReportSelfExchange _ _ | .stepHousekeeping _ _ | .reset _ | .sfiInhibit | .sfiReset | .reqOn _ => true
  | .reqOff _ | .reqRaw _ | .rdOemFrame | .rdHtrFrame | .rdFault | .rdStatus => true
  | .recycle | .crc16 _ | .setCrc _ | .verifyCrc _ | .parse _ _ | .serialize _ | .getCHeader _ | .setCHeader _ _ => false
  | .getCLength _ | .setCLength _ _ | .getCCommand _ | .setCCommand _ _ | .getCActualTemperature _ => false
  | .setCActualTemperature _ _ | .getCDesiredDemand _ _ | .setCDesiredDemand _ _ _ | .getCPumpMinFreq _ => false
  | .setCPumpMinFreq _ _ | .getCPumpMaxFreq _ | .setCPumpMaxFreq _ _ | .getCFanMinRPM _ | .setCFanMinRPM _ _ => false
  | .getCFanMaxRPM _ | .setCFanMaxRPM _ _ | .getCOperatingVoltage _ | .setCOperatingVoltage _ _ => false
  | .getCFanSensorSelect _ | .setCFanSensorSelect _ _ | .getCOperatingMode _ | .setCOperatingMode _ _ => false
  | .getCMinTemperature _ | .setCMinTemperature _ _ | .getCMaxTemperature _ | .setCMaxTemperature _ _ => false
  | .getCGlowDrive _ | .setCGlowDrive _ _ | .getCPrime _ | .setCPrime _ _ | .getCReserved _ | .setCReserved _ _ => false
  | .getCCrc _ | .getHCrc _ => false
  | .getHHeader _ | .setHHeader _ _ | .getHLength _ | .setHLength _ _ | .getHRunState _ | .setHRunState _ _ => false
  | .getHErrState _ | .setHErrState _ _ | .getHSupplyVoltage _ | .setHSupplyVoltage _ _ | .getHFanRPM _ => false
  | .setHFanRPM _ _ | .getHFanVoltage _ | .setHFanVoltage _ _ | .getHHeatExchgTemp _ | .setHHeatExchgTemp _ _ => false
  | .getHGlowVoltage _ | .setHGlowVoltage _ _ | .getHGlowCurrent _ | .setHGlowCurrent _ _ => false
  | .getHActualPumpFreq _ | .setHActualPumpFreq _ _ | .getHStoredErrorCode _ | .setHStoredErrorCode _ _ => false
  | .getHReserved _ | .setHReserved _ _ | .txConfig _ _ _ | .txStart _ | .txCheck _ | .prepareFrame _ _ _ => false
  | .composeDisabled _ _ | .composeStandard _ _ | .composeWindowed _ _ | .composeLinearHz _ _ | .sfiUpdate _ => false
  | .checkVolts _ _ | .frameController _ | .frameHeater _ => false

/-- A count that fits one byte. -/
def fits8 (v : Int) : Prop := 0 ≤ v ∧ v ≤ 255

/-- A count that fits two bytes. -/
def fits16 (v : Int) : Prop := 0 ≤ v ∧ v ≤ 65535

/-- A temperature that fits its byte (R123, R206). -/
def fitsDegrees (signed : Bool) (v : Int) : Prop := if signed then -128 ≤ v ∧ v ≤ 127 else 0 ≤ v ∧ v ≤ 255

/-- The tuning inputs are in range (R261). -/
def tuningInRange (inp : Inp) : Prop :=
  fits8 (rnd (inp.pumpMin * 10)) ∧ fits8 (rnd (inp.pumpMax * 10)) ∧ fits8 (rnd (inp.sysVoltage * 10)) ∧
    fits16 inp.fanMin ∧ fits16 inp.fanMax

/-- The demand inputs are in range for a basis (R261). -/
def demandInRange (signed : Bool) (basis : Raw) (inp : Inp) : Prop :=
  inp.thermoEnable = true →
    match inp.method with
    | .standard => fitsDegrees signed (rnd inp.sensed) ∧ fitsDegrees signed (rnd inp.desired)
    | .windowedHysteresis => fitsDegrees signed (windowedReport inp) ∧ fitsDegrees signed (rnd inp.desired)
    | .linearHz => 0 < inp.window ∧ basis[14].toNat ≤ basis[15].toNat

/-- The in-range hypothesis of R261 on a master frame. -/
def inRange (signed : Bool) (basis : Raw) (inp : Inp) : Prop := tuningInRange inp ∧ demandInRange signed basis inp

/-- A sequence of passes (R151): each executes the row of the state it begins in. -/
def passes (l : List (Nat × Inp)) (s : State) : Host.Outcome State Fault Refusal :=
  match l with
  | [] => .next s
  | (now, inp) :: rest =>
    match exec (stepRow s.st now inp) s with
    | .next s' => passes rest s'
    | .fault r => .fault r
    | .refused r => .refused r

/-- An outcome with its next state changed. -/
def mapNext (f : State → State) (o : Host.Outcome State Fault Refusal) : Host.Outcome State Fault Refusal :=
  match o with
  | .next s => .next (f s)
  | .fault r => .fault r
  | .refused r => .refused r

/-- A state without its timeout log: `tLog` and the log events (R270). -/
def forgetLog (s : State) : State := { s with tLog := none, events := s.events.filter fun e => e ≠ .logTimeout }

/-- A state without its mastership. -/
def forgetMaster (s : State) : State := { s with master := .none }

/-- A frame with one bit of one byte flipped. -/
def flipBit (x : Raw) (i : Fin 24) (b : Nat) : Raw := x.set i (x[i] ^^^ (1#8 <<< b))

/-- `y` is `x` but for the bytes at the offsets listed. -/
def sameExcept (changed : List Nat) (x y : Raw) : Prop := ∀ i (h : i < 24), i ∉ changed → y[i] = x[i]

/-- The two-byte value at offsets `hi` and `hi + 1`: the lower offset is the more significant (R60, R90). -/
def wide (x : Raw) (hi lo : Fin 24) : Nat := x[hi].toNat * 256 + x[lo].toNat

/-- The state after the poll phase of a pass at `now` (R151, R152), as one update. -/
def afterPoll (now : Nat) (s : State) : State :=
  { s with configOpen := false, clock := now, events := [], result := .none, rxFifo := s.rxFifo.tail,
           tLast := if s.rxFifo = [] then s.tLast else now }

/-- The state with another receive buffer. -/
def withRx (which : RxBuf) (x : Raw) (s : State) : State :=
  match which with
  | .oem => { s with bufOEM := x }
  | .hm => { s with bufHM := x }
  | .hs => { s with bufHS := x }

/-- The collecting state of a buffer (R153). -/
def collectsIn (which : RxBuf) : BusState :=
  match which with
  | .oem => .observeMasterFrame
  | .hm => .awaitHeaterReplyToMaster
  | .hs => .awaitHeaterReplyToSelf

/-- The state after 24 bytes in a buffer (R153). -/
def completesTo (which : RxBuf) : BusState :=
  match which with
  | .oem => .validateMasterFrame
  | .hm => .validateHeaterReplyToMaster
  | .hs => .validateHeaterReplyToSelf

/-- The operation that collects into a buffer (R158, R160, R165). -/
def collector (which : RxBuf) (now : Nat) (inp : Inp) : Instr :=
  match which with
  | .oem => .stepObserveMasterFrame now inp
  | .hm => .stepAwaitHeaterReplyToMaster now inp
  | .hs => .stepAwaitHeaterReplyToSelf now inp

/-- The operations of the HOST agent but for `RESET` (R247). -/
def byHost (i : Instr) : Prop :=
  (∃ v, i = .reqOn v) ∨ (∃ v, i = .reqOff v) ∨ (∃ b, i = .reqRaw b) ∨ i = .sfiInhibit ∨ i = .sfiReset ∨
    i = .rdOemFrame ∨ i = .rdHtrFrame ∨ i = .rdFault ∨ i = .rdStatus

/-- A pause longer than every wait of a configuration (R172). -/
def longPause (c : Cfg) : Nat := 1 + max c.tData (max c.tFrameTime c.tReportDelay)

/-- Passes whose times lie at least `gap` apart, the first that long after `start`. -/
def spaced (gap : Nat) (start : Nat) (l : List (Nat × Inp)) : Prop :=
  match l with
  | [] => True
  | (now, _) :: rest => start + gap ≤ now ∧ spaced gap now rest

/-- The moves of the transition table R170, the rest of a pass leaving `st` as it is. -/
def transition (a b : BusState) : Bool :=
  match a with
  | .idle => b == .transmitSelf || b == .observeMasterFrame
  | .observeMasterFrame => b == .validateMasterFrame || b == .housekeeping
  | .validateMasterFrame => b == .awaitHeaterReplyToMaster || b == .housekeeping
  | .awaitHeaterReplyToMaster => b == .validateHeaterReplyToMaster || b == .housekeeping
  | .validateHeaterReplyToMaster => b == .reportMasterExchange || b == .housekeeping
  | .reportMasterExchange => b == .transmitSelf
  | .transmitSelf => b == .awaitHeaterReplyToSelf
  | .awaitHeaterReplyToSelf => b == .validateHeaterReplyToSelf || b == .housekeeping
  | .validateHeaterReplyToSelf => b == .reportSelfExchange || b == .housekeeping
  | .reportSelfExchange => b == .housekeeping
  | .housekeeping => b == .idle

end Sys2Proof.Machine
end

