-- ==== Sys2Proof/Certificates/Slice0/Obligations.lean ====
section
/-! DEFINITION. The statements for the provers. Each docstring names the rule of spec/ it formalises, or the log entry whose
choice it states. The fields `configOpen`, `clock`, `script`, `events` and `result` are the model's own (entries 31, 7, 1, 8):
what a statement says of them is no rule of the spec. -/

open Sys2Proof Sys2Proof.Machine

/-- Decoding the encoding of a well-formed operation gives it back, every operand included (R91, R92, R119; the operand
encoding is the model's, entries 2 and 3). -/
def Obligations.DecodeOfEncode : Prop :=
  ∀ i : Instr, i.wellFormed = true → decode i.selector (encode i) = .ok i

/-- No line stands for an accessor on an unvalidated frame: whatever decodes is well formed (R116). -/
def Obligations.DecodedOperationIsWellFormed : Prop :=
  ∀ (st : BusState) (l : Line) (i : Instr), decode st l = .ok i → i.wellFormed = true

/-- `step` takes the next line of the environment and runs the operation it decodes to; nothing else happens (entry 1). -/
def Obligations.StepRunsDecodedOperation : Prop :=
  ∀ (s : State) (l : Line) (rest : List Line) (i : Instr), s.script = l :: rest → decode s.st l = .ok i →
    step s = exec i { s with script := rest }

/-- Codes written out from R91, R92 and the table decode to the operations they name. -/
def Obligations.SpecCodesDecode : Prop :=
  decode .idle (Line.ofCode [0x00#8, 0x76#8]) = .ok (.busRx 0x76#8) ∧
  decode .transmitSelf (Line.atTime [0x01#8] 922) = .ok (.stepTransmitSelf 922 Inp.zero) ∧
  decode .housekeeping (Line.atTime [0x01#8] 331) = .ok (.stepHousekeeping 331 Inp.zero) ∧
  decode .idle (Line.atTime [0x0F#8] 7) = .ok (.reset 7) ∧
  decode .idle (Line.atTime [0x21#8] 901) = .ok (.txStart 901) ∧
  decode .idle (Line.ofCode [0x40#8, 0x06#8]) = .ok (.sfiUpdate 0x06#8) ∧
  decode .idle (Line.ofCode [0x50#8, 0x01#8]) = .ok (.reqOn true) ∧
  decode .idle (Line.ofCode [0x52#8, 0x5A#8]) = .ok (.reqRaw 0x5A#8)

/-- R110: `CRC16`, one byte at a time through the table, from 0xFFFF, with the rule's two worked values. The table's constant
is what R111 supplies from general knowledge (entry 19). -/
def Obligations.Crc16Operation : Prop :=
  (∀ (data : List Byte) (s : State), exec (.crc16 data) s = .next { s with events := [], result := .crc (data.foldl
    (fun crc b => (crc >>> 8) ^^^ crcTable ((crc ^^^ b.setWidth 16).setWidth 8)) 0xFFFF#16) }) ∧
  crc16 [0x31#8, 0x32#8, 0x33#8, 0x34#8, 0x35#8, 0x36#8, 0x37#8, 0x38#8, 0x39#8] = 0x4B37#16 ∧
  crc16 (List.replicate 22 0x00#8) = 0x0B5B#16

/-- R112, an inference of the spec's own: the table form and the bitwise form agree on every input (the constant of both is
entry 19's). -/
def Obligations.BitwiseCrcIsTheSame : Prop := ∀ data : List Byte, crc16Bitwise data = crc16 data

/-- R113: `SET_CRC` replaces bytes 22 and 23 by the checksum of bytes 0 to 21, most significant byte first. -/
def Obligations.SetCrcOperation : Prop :=
  ∀ (x : Raw) (s : State), ∃ y : Raw,
    exec (.setCrc x) s = .next { s with events := [], result := .raw y } ∧ sameExcept [22, 23] x y ∧
    wide y 22 23 = (crc16 (x.toList.take 22)).toNat

/-- R114: `VERIFY_CRC` compares the checksum of bytes 0 to 21 with the stored one and checks nothing else; a frame that
`SET_CRC` finished verifies; and no single-bit error in bytes 0 to 21 escapes it. -/
def Obligations.VerifyCrcOperation : Prop :=
  (∀ (x : Raw) (s : State), exec (.verifyCrc x) s = .next { s with
    events := [], result := .bool (decide ((crc16 (x.toList.take 22)).toNat = wide x 22 23)) }) ∧
  (∀ x : Raw, verifyCrc (setCrc x) = true) ∧
  ∀ (x : Raw) (i : Fin 24) (b : Nat), i.val < 22 → b < 8 → verifyCrc (flipBit (setCrc x) i b) = false

/-- R115: `PARSE` answers the bytes with the caller's role exactly when `VERIFY_CRC` holds. -/
def Obligations.ParseOperation : Prop :=
  ∀ (x : Raw) (role : Role) (s : State), exec (.parse x role) s = .next { s with
    events := [], result := .parsed (if verifyCrc x = true then some ⟨x, role⟩ else none) }

/-- R118: `SERIALIZE` answers the bytes of the frame, and parsing them gives the frame back. -/
def Obligations.SerializeOperation : Prop :=
  ∀ (f : Frame) (s : State), f.valid f.role = true →
    exec (.serialize f) s = .next { s with events := [], result := .raw f.bytes } ∧ parse f.bytes f.role = some f

/-- Every operation on a frame that was not validated for its role stops as the programming error `AccessorOnUnvalidated`
(R116, R262 (d); that it is a stop is the model's choice, entry 13). -/
def Obligations.UnvalidatedFrameStops : Prop :=
  ∀ (i : Instr) (s : State), i.wellFormed = false → exec i s = .fault .accessorOnUnvalidated

/-- R120, R121, R122, R130, R131, R134, R135: the one-byte unscaled controller fields, at their offsets; and R119: `GET` of
`crc`, which has no `SET`. -/
def Obligations.ControllerByteFields : Prop :=
  (∀ (f : Frame) (s : State), f.valid .controller = true →
    exec (.getCHeader f) s = .next { s with events := [], result := .byte f.bytes[0] } ∧
    exec (.getCLength f) s = .next { s with events := [], result := .byte f.bytes[1] } ∧
    exec (.getCCommand f) s = .next { s with events := [], result := .byte f.bytes[2] } ∧
    exec (.getCFanSensorSelect f) s = .next { s with events := [], result := .byte f.bytes[12] } ∧
    exec (.getCOperatingMode f) s = .next { s with events := [], result := .byte f.bytes[13] } ∧
    exec (.getCGlowDrive f) s = .next { s with events := [], result := .byte f.bytes[16] } ∧
    exec (.getCPrime f) s = .next { s with events := [], result := .byte f.bytes[17] } ∧
    exec (.getCCrc f) s = .next { s with events := [], result := .crc (f.bytes[22] ++ f.bytes[23]) }) ∧
  ∀ (x : Raw) (v : Byte) (s : State),
    exec (.setCHeader x v) s = .next { s with events := [], result := .raw (x.set 0 v) } ∧
    exec (.setCLength x v) s = .next { s with events := [], result := .raw (x.set 1 v) } ∧
    exec (.setCCommand x v) s = .next { s with events := [], result := .raw (x.set 2 v) } ∧
    exec (.setCFanSensorSelect x v) s = .next { s with events := [], result := .raw (x.set 12 v) } ∧
    exec (.setCOperatingMode x v) s = .next { s with events := [], result := .raw (x.set 13 v) } ∧
    exec (.setCGlowDrive x v) s = .next { s with events := [], result := .raw (x.set 16 v) } ∧
    exec (.setCPrime x v) s = .next { s with events := [], result := .raw (x.set 17 v) }

/-- R123, R124: a temperature byte reads and writes in whole degrees, signed or not by `TEMP_BYTE_SIGNED`; the demand byte
has a second, unsigned reading; a value outside the byte is refused. -/
def Obligations.ControllerTemperatureFields : Prop :=
  (∀ (f : Frame) (s : State), f.valid .controller = true →
    exec (.getCActualTemperature f) s = .next { s with
      events := [], result := .degrees (if s.cfg.tempByteSigned then f.bytes[3].toInt else f.bytes[3].toNat) } ∧
    exec (.getCDesiredDemand f .temperature) s = .next { s with
      events := [], result := .degrees (if s.cfg.tempByteSigned then f.bytes[4].toInt else f.bytes[4].toNat) } ∧
    exec (.getCDesiredDemand f .hzProxy) s = .next { s with events := [], result := .count f.bytes[4].toNat }) ∧
  ∀ (x : Raw) (v : Int) (s : State),
    (fitsDegrees s.cfg.tempByteSigned v → ∃ b : Byte, degreesOf s.cfg.tempByteSigned b = v ∧
      exec (.setCActualTemperature x v) s = .next { s with events := [], result := .raw (x.set 3 b) } ∧
      exec (.setCDesiredDemand x .temperature v) s = .next { s with events := [], result := .raw (x.set 4 b) }) ∧
    (¬ fitsDegrees s.cfg.tempByteSigned v →
      exec (.setCActualTemperature x v) s = .refused .fieldRange ∧
      exec (.setCDesiredDemand x .temperature v) s = .refused .fieldRange) ∧
    (fits8 v → ∃ b : Byte, (b.toNat : Int) = v ∧
      exec (.setCDesiredDemand x .hzProxy v) s = .next { s with events := [], result := .raw (x.set 4 b) }) ∧
    (¬ fits8 v → exec (.setCDesiredDemand x .hzProxy v) s = .refused .fieldRange)

/-- R125, R126, R129: the one-byte controller fields of ten counts to the unit: read as count over ten, written as the
nearest count, a half rounded up, and refused outside the byte. -/
def Obligations.ControllerScaledFields : Prop :=
  (∀ (f : Frame) (s : State), f.valid .controller = true →
    exec (.getCPumpMinFreq f) s = .next { s with events := [], result := .physical ((f.bytes[5].toNat : ℚ) / 10) } ∧
    exec (.getCPumpMaxFreq f) s = .next { s with events := [], result := .physical ((f.bytes[6].toNat : ℚ) / 10) } ∧
    exec (.getCOperatingVoltage f) s =
      .next { s with events := [], result := .physical ((f.bytes[11].toNat : ℚ) / 10) }) ∧
  ∀ (x : Raw) (p : ℚ) (s : State),
    (fits8 ⌊p * 10 + 1 / 2⌋ → ∃ b : Byte, (b.toNat : Int) = ⌊p * 10 + 1 / 2⌋ ∧
      exec (.setCPumpMinFreq x p) s = .next { s with events := [], result := .raw (x.set 5 b) } ∧
      exec (.setCPumpMaxFreq x p) s = .next { s with events := [], result := .raw (x.set 6 b) } ∧
      exec (.setCOperatingVoltage x p) s = .next { s with events := [], result := .raw (x.set 11 b) }) ∧
    (¬ fits8 ⌊p * 10 + 1 / 2⌋ →
      exec (.setCPumpMinFreq x p) s = .refused .fieldRange ∧
      exec (.setCPumpMaxFreq x p) s = .refused .fieldRange ∧
      exec (.setCOperatingVoltage x p) s = .refused .fieldRange)

/-- R127, R128: the two fan speeds, big-endian at odd offsets, refused outside 0 to 65535. -/
def Obligations.ControllerSpeedFields : Prop :=
  (∀ (f : Frame) (s : State), f.valid .controller = true →
    exec (.getCFanMinRPM f) s = .next { s with events := [], result := .count (wide f.bytes 7 8) } ∧
    exec (.getCFanMaxRPM f) s = .next { s with events := [], result := .count (wide f.bytes 9 10) }) ∧
  ∀ (x : Raw) (v : Int) (s : State),
    (fits16 v →
      (∃ y : Raw, exec (.setCFanMinRPM x v) s = .next { s with events := [], result := .raw y } ∧
        (wide y 7 8 : Int) = v ∧ sameExcept [7, 8] x y) ∧
      ∃ y : Raw, exec (.setCFanMaxRPM x v) s = .next { s with events := [], result := .raw y } ∧
        (wide y 9 10 : Int) = v ∧ sameExcept [9, 10] x y) ∧
    (¬ fits16 v → exec (.setCFanMinRPM x v) s = .refused .fieldRange ∧
      exec (.setCFanMaxRPM x v) s = .refused .fieldRange)

/-- R132, R133, R136 under the template R119: the two temperature bounds, unsigned, and the four reserved bytes, kept as
they are. -/
def Obligations.ControllerBoundsAndReserved : Prop :=
  (∀ (f : Frame) (s : State), f.valid .controller = true →
    exec (.getCMinTemperature f) s = .next { s with events := [], result := .count f.bytes[14].toNat } ∧
    exec (.getCMaxTemperature f) s = .next { s with events := [], result := .count f.bytes[15].toNat } ∧
    exec (.getCReserved f) s = .next { s with
      events := [], result := .quad #v[f.bytes[18], f.bytes[19], f.bytes[20], f.bytes[21]] }) ∧
  ∀ (x : Raw) (v : Int) (r : Vector Byte 4) (s : State),
    (fits8 v → ∃ b : Byte, (b.toNat : Int) = v ∧
      exec (.setCMinTemperature x v) s = .next { s with events := [], result := .raw (x.set 14 b) } ∧
      exec (.setCMaxTemperature x v) s = .next { s with events := [], result := .raw (x.set 15 b) }) ∧
    (¬ fits8 v → exec (.setCMinTemperature x v) s = .refused .fieldRange ∧
      exec (.setCMaxTemperature x v) s = .refused .fieldRange) ∧
    ∃ y : Raw, exec (.setCReserved x r) s = .next { s with events := [], result := .raw y } ∧
      #v[y[18], y[19], y[20], y[21]] = r ∧ sameExcept [18, 19, 20, 21] x y

/-- R137 to R140, R148, R149 under the template R119: the one-byte heater fields, the four reserved bytes and `GET` of `crc`.
-/
def Obligations.HeaterByteFields : Prop :=
  (∀ (f : Frame) (s : State), f.valid .heater = true →
    exec (.getHHeader f) s = .next { s with events := [], result := .byte f.bytes[0] } ∧
    exec (.getHLength f) s = .next { s with events := [], result := .byte f.bytes[1] } ∧
    exec (.getHRunState f) s = .next { s with events := [], result := .byte f.bytes[2] } ∧
    exec (.getHErrState f) s = .next { s with events := [], result := .byte f.bytes[3] } ∧
    exec (.getHStoredErrorCode f) s = .next { s with events := [], result := .byte f.bytes[17] } ∧
    exec (.getHReserved f) s = .next { s with
      events := [], result := .quad #v[f.bytes[18], f.bytes[19], f.bytes[20], f.bytes[21]] } ∧
    exec (.getHCrc f) s = .next { s with events := [], result := .crc (f.bytes[22] ++ f.bytes[23]) }) ∧
  ∀ (x : Raw) (v : Byte) (r : Vector Byte 4) (s : State),
    exec (.setHHeader x v) s = .next { s with events := [], result := .raw (x.set 0 v) } ∧
    exec (.setHLength x v) s = .next { s with events := [], result := .raw (x.set 1 v) } ∧
    exec (.setHRunState x v) s = .next { s with events := [], result := .raw (x.set 2 v) } ∧
    exec (.setHErrState x v) s = .next { s with events := [], result := .raw (x.set 3 v) } ∧
    exec (.setHStoredErrorCode x v) s = .next { s with events := [], result := .raw (x.set 17 v) } ∧
    ∃ y : Raw, exec (.setHReserved x r) s = .next { s with events := [], result := .raw y } ∧
      #v[y[18], y[19], y[20], y[21]] = r ∧ sameExcept [18, 19, 20, 21] x y

/-- R141, R143, R145, R146, R147 under R117 and R119: the heater's voltages, glow current and pump frequency. -/
def Obligations.HeaterScaledFields : Prop :=
  (∀ (f : Frame) (s : State), f.valid .heater = true →
    exec (.getHSupplyVoltage f) s = .next { s with events := [], result := .physical ((wide f.bytes 4 5 : ℚ) / 10) } ∧
    exec (.getHFanVoltage f) s = .next { s with events := [], result := .physical ((wide f.bytes 8 9 : ℚ) / 10) } ∧
    exec (.getHGlowVoltage f) s = .next { s with events := [], result := .physical ((wide f.bytes 12 13 : ℚ) / 10) } ∧
    exec (.getHGlowCurrent f) s = .next { s with events := [], result := .physical ((wide f.bytes 14 15 : ℚ) / 100) } ∧
    exec (.getHActualPumpFreq f) s =
      .next { s with events := [], result := .physical ((f.bytes[16].toNat : ℚ) / 10) }) ∧
  ∀ (x : Raw) (p : ℚ) (s : State),
    (fits16 ⌊p * 10 + 1 / 2⌋ →
      (∃ y : Raw, exec (.setHSupplyVoltage x p) s = .next { s with events := [], result := .raw y } ∧
        (wide y 4 5 : Int) = ⌊p * 10 + 1 / 2⌋ ∧ sameExcept [4, 5] x y) ∧
      (∃ y : Raw, exec (.setHFanVoltage x p) s = .next { s with events := [], result := .raw y } ∧
        (wide y 8 9 : Int) = ⌊p * 10 + 1 / 2⌋ ∧ sameExcept [8, 9] x y) ∧
      ∃ y : Raw, exec (.setHGlowVoltage x p) s = .next { s with events := [], result := .raw y } ∧
        (wide y 12 13 : Int) = ⌊p * 10 + 1 / 2⌋ ∧ sameExcept [12, 13] x y) ∧
    (¬ fits16 ⌊p * 10 + 1 / 2⌋ → exec (.setHSupplyVoltage x p) s = .refused .fieldRange ∧
      exec (.setHFanVoltage x p) s = .refused .fieldRange ∧ exec (.setHGlowVoltage x p) s = .refused .fieldRange) ∧
    (fits16 ⌊p * 100 + 1 / 2⌋ →
      ∃ y : Raw, exec (.setHGlowCurrent x p) s = .next { s with events := [], result := .raw y } ∧
        (wide y 14 15 : Int) = ⌊p * 100 + 1 / 2⌋ ∧ sameExcept [14, 15] x y) ∧
    (¬ fits16 ⌊p * 100 + 1 / 2⌋ → exec (.setHGlowCurrent x p) s = .refused .fieldRange) ∧
    (fits8 ⌊p * 10 + 1 / 2⌋ → ∃ b : Byte, (b.toNat : Int) = ⌊p * 10 + 1 / 2⌋ ∧
      exec (.setHActualPumpFreq x p) s = .next { s with events := [], result := .raw (x.set 16 b) }) ∧
    (¬ fits8 ⌊p * 10 + 1 / 2⌋ → exec (.setHActualPumpFreq x p) s = .refused .fieldRange)

/-- R142, R144 under the template R119: the heater's fan speed and heat-exchanger count, both the raw unsigned count. -/
def Obligations.HeaterCountFields : Prop :=
  (∀ (f : Frame) (s : State), f.valid .heater = true →
    exec (.getHFanRPM f) s = .next { s with events := [], result := .count (wide f.bytes 6 7) } ∧
    exec (.getHHeatExchgTemp f) s = .next { s with events := [], result := .count (wide f.bytes 10 11) }) ∧
  ∀ (x : Raw) (v : Int) (s : State),
    (fits16 v →
      (∃ y : Raw, exec (.setHFanRPM x v) s = .next { s with events := [], result := .raw y } ∧
        (wide y 6 7 : Int) = v ∧ sameExcept [6, 7] x y) ∧
      ∃ y : Raw, exec (.setHHeatExchgTemp x v) s = .next { s with events := [], result := .raw y } ∧
        (wide y 10 11 : Int) = v ∧ sameExcept [10, 11] x y) ∧
    (¬ fits16 v → exec (.setHFanRPM x v) s = .refused .fieldRange ∧
      exec (.setHHeatExchgTemp x v) s = .refused .fieldRange)

/-- The two layout rows read 24 validated bytes at the offsets of R81 and R82, and answer nothing for bytes that fail
`VERIFY_CRC` (that a layout row reads is the model's choice, entry 16). -/
def Obligations.FrameLayouts : Prop :=
  (∀ (x : Raw) (s : State), verifyCrc x = true →
    exec (.frameController x) s = .next { s with events := [], result := .controllerFields (some
      { header := x[0], length := x[1], command := x[2]
        actualTemperature := if s.cfg.tempByteSigned then x[3].toInt else x[3].toNat
        desiredDemand := x[4], pumpMinFreq := (x[5].toNat : ℚ) / 10, pumpMaxFreq := (x[6].toNat : ℚ) / 10
        fanMinRPM := wide x 7 8, fanMaxRPM := wide x 9 10, operatingVoltage := (x[11].toNat : ℚ) / 10
        fanSensorSelect := x[12], operatingMode := x[13], minTemperature := x[14].toNat
        maxTemperature := x[15].toNat, glowDrive := x[16], prime := x[17]
        reserved := #v[x[18], x[19], x[20], x[21]], crc := x[22] ++ x[23] }) } ∧
    exec (.frameHeater x) s = .next { s with events := [], result := .heaterFields (some
      { header := x[0], length := x[1], runState := x[2], errState := x[3]
        supplyVoltage := (wide x 4 5 : ℚ) / 10, fanRPM := wide x 6 7, fanVoltage := (wide x 8 9 : ℚ) / 10
        heatExchgTemp := wide x 10 11, glowVoltage := (wide x 12 13 : ℚ) / 10
        glowCurrent := (wide x 14 15 : ℚ) / 100, actualPumpFreq := (x[16].toNat : ℚ) / 10
        storedErrorCode := x[17], reserved := #v[x[18], x[19], x[20], x[21]], crc := x[22] ++ x[23] }) }) ∧
  ∀ (x : Raw) (s : State), verifyCrc x = false →
    exec (.frameController x) s = .next { s with events := [], result := .controllerFields none } ∧
    exec (.frameHeater x) s = .next { s with events := [], result := .heaterFields none }

/-- R150: a byte of the bus is appended to the FIFO, in any state, and nothing else happens. -/
def Obligations.BusByteIsQueued : Prop :=
  ∀ (b : Byte) (s : State),
    exec (.busRx b) s = .next { s with
      rxFifo := s.rxFifo ++ [b], configOpen := false, events := [], result := .none }

/-- R157 with R163: the four branches of `Idle`. Promotion needs no cycle in flight (R45 (d)) and inputs in range (R261). -/
def Obligations.IdleRule : Prop :=
  ∀ (s : State) (now : Nat) (inp : Inp), s.st = .idle → s.clock ≤ now →
    (∀ p, s.pubOEM = some p → selectBasis s = p.frame.bytes) ∧
    (s.pubOEM = none → selectBasis s = s.cfg.defaultBasis) ∧
    (s.rxFifo = [] → s.cfg.tSilence < now - s.tLast → s.txStart = none →
      inRange s.cfg.tempByteSigned (selectBasis s) inp →
      ∃ f : Raw, prepareFrame s.cfg.toCfg s.cq (selectBasis s) true inp = .ok f ∧
        exec (.stepIdle now inp) s = .next { afterPoll now s with
          master := .self, txBuf := f, cq := { s.cq with raw := none }, txStart := some now, pending := true,
          st := .transmitSelf }) ∧
    (s.rxFifo = [] → now - s.tLast ≤ s.cfg.tSilence → exec (.stepIdle now inp) s = .next (afterPoll now s)) ∧
    ∀ (b : Byte) (rest : List Byte), s.rxFifo = b :: rest →
      (s.cfg.tData < now - s.tLast → exec (.stepIdle now inp) s = .next { afterPoll now s with
        bufOEM := s.bufOEM.set 0 b, idx := 1, st := .observeMasterFrame }) ∧
      (now - s.tLast ≤ s.cfg.tData → exec (.stepIdle now inp) s = .next (afterPoll now s))

/-- R155 with R153, R158, R160, R165, the passes of a collecting state that do not time out: a byte is stored at `idx` and
wins over any gap before it, the 24th moves to the validate state, and without a byte in time nothing changes. -/
def Obligations.CollectingStoresOneByte : Prop :=
  ∀ (w : RxBuf) (s : State) (now : Nat) (inp : Inp), s.st = collectsIn w → s.clock ≤ now →
    (∀ (b : Byte) (rest : List Byte) (h : s.idx < 24), s.rxFifo = b :: rest →
      exec (collector w now inp) s = .next { withRx w ((rxBytes w s).set s.idx b) (afterPoll now s) with
        idx := s.idx + 1, st := if s.idx + 1 = 24 then completesTo w else s.st }) ∧
    (s.rxFifo = [] → now - s.tLast ≤ s.cfg.tData → exec (collector w now inp) s = .next (afterPoll now s))

/-- R156, R257, R258, R270: silence longer than `T_DATA` in a collecting state abandons the partial frame: the moderated
log, then the error with the state and the count, then the recycle; a heater wait clears `heaterResponding`. -/
def Obligations.CollectionTimeout : Prop :=
  ∀ (w : RxBuf) (s : State) (now : Nat) (inp : Inp), s.st = collectsIn w → s.clock ≤ now → s.rxFifo = [] →
    s.cfg.tData < now - s.tLast →
    ((s.tLog = none ∨ ∃ t, s.tLog = some t ∧ t + 10 ≤ now) → exec (collector w now inp) s = .next { afterPoll now s with
      events := [.logTimeout, .frameCollectionTimeout s.st s.idx, .recycle], tLog := some now
      heaterResponding := if w = .oem then s.heaterResponding else false
      idx := 0, recycleCount := s.recycleCount + 1#32, st := .housekeeping }) ∧
    (∀ t, s.tLog = some t → now < t + 10 → exec (collector w now inp) s = .next { afterPoll now s with
      events := [.frameCollectionTimeout s.st s.idx, .recycle]
      heaterResponding := if w = .oem then s.heaterResponding else false
      idx := 0, recycleCount := s.recycleCount + 1#32, st := .housekeeping })

/-- R159: a good OEM frame is published, classified by its header and makes the OEM controller master; a bad one is
reported and recycled, and `master` stays. -/
def Obligations.ValidateMasterFrame : Prop :=
  ∀ (s : State) (now : Nat) (inp : Inp), s.st = .validateMasterFrame → s.clock ≤ now →
    (verifyCrc s.bufOEM = true → exec (.stepValidateMasterFrame now inp) s = .next { afterPoll now s with
      pubOEM := some ⟨⟨s.bufOEM, .controller⟩, now⟩
      oemKind := if s.bufOEM[0] = 0x76#8 then .active else if s.bufOEM[0] = 0x78#8 then .passive else .unknown
      master := .oem, idx := 0, st := .awaitHeaterReplyToMaster }) ∧
    (verifyCrc s.bufOEM = false → exec (.stepValidateMasterFrame now inp) s = .next { afterPoll now s with
      events := [.frameCrcMismatch s.bufOEM, .recycle], rxFifo := [], idx := 0
      recycleCount := s.recycleCount + 1#32, st := .housekeeping })

/-- R161: a good heater reply to the OEM controller is published, fed to `SFI_UPDATE` and then to `CHECK_VOLTS`, and starts
the report delay; a bad one is reported, recycled and clears `heaterResponding`. -/
def Obligations.ValidateHeaterReplyToMaster : Prop :=
  ∀ (s : State) (now : Nat) (inp : Inp), s.st = .validateHeaterReplyToMaster → s.clock ≤ now →
    (verifyCrc s.bufHM = true → exec (.stepValidateHeaterReplyToMaster now inp) s =
      .next { checkVolts s.bufHM inp (sfiUpdate s.bufHM[2] (afterPoll now s)) with
        pubHtr := some ⟨⟨s.bufHM, .heater⟩, now⟩, heaterResponding := true, tReport := now
        st := .reportMasterExchange }) ∧
    (verifyCrc s.bufHM = false → exec (.stepValidateHeaterReplyToMaster now inp) s = .next { afterPoll now s with
      events := [.frameCrcMismatch s.bufHM, .recycle], heaterResponding := false, rxFifo := [], idx := 0
      recycleCount := s.recycleCount + 1#32, st := .housekeeping })

/-- R166: the same for the heater's reply to the engine's own frame, which starts no report delay. -/
def Obligations.ValidateHeaterReplyToSelf : Prop :=
  ∀ (s : State) (now : Nat) (inp : Inp), s.st = .validateHeaterReplyToSelf → s.clock ≤ now →
    (verifyCrc s.bufHS = true → exec (.stepValidateHeaterReplyToSelf now inp) s =
      .next { checkVolts s.bufHS inp (sfiUpdate s.bufHS[2] (afterPoll now s)) with
        pubHtr := some ⟨⟨s.bufHS, .heater⟩, now⟩, heaterResponding := true, st := .reportSelfExchange }) ∧
    (verifyCrc s.bufHS = false → exec (.stepValidateHeaterReplyToSelf now inp) s = .next { afterPoll now s with
      events := [.frameCrcMismatch s.bufHS, .recycle], heaterResponding := false, rxFifo := [], idx := 0
      recycleCount := s.recycleCount + 1#32, st := .housekeeping })

/-- R162: after the report delay the OEM frame is parroted: header passive, the queued command, a new checksum, every other
byte as the OEM controller sent it; before it, nothing. `pubOEM` is present and no cycle is in flight by R45. That byte 2 is
replaced, by 0x00 when nothing is queued, is the model's choice between R183 and R94 with U10 (entry 30). -/
def Obligations.ReportMasterExchange : Prop :=
  ∀ (s : State) (now : Nat) (inp : Inp) (p : Stamped), s.st = .reportMasterExchange → s.clock ≤ now →
    s.pubOEM = some p → s.txStart = none →
    (s.cfg.tReportDelay ≤ now - s.tReport → ∃ f : Raw,
      exec (.stepReportMasterExchange now inp) s = .next { afterPoll now s with
        txBuf := f, cq := { s.cq with raw := none }, txStart := some now, pending := true, st := .transmitSelf } ∧
      verifyCrc f = true ∧ f[0] = 0x78#8 ∧ f[2] = commandByte s.cfg.toCfg s.cq ∧
      sameExcept [0, 2, 22, 23] p.frame.bytes f) ∧
    (now - s.tReport < s.cfg.tReportDelay →
      exec (.stepReportMasterExchange now inp) s = .next (afterPoll now s))

/-- R164 with R182: `TransmitSelf` polls the scheduler; when the frame time has passed, the gate is released, the end of the
transmission counts as bus activity and the reply is awaited from byte 0. -/
def Obligations.TransmitSelfRule : Prop :=
  ∀ (s : State) (now : Nat) (inp : Inp) (t : Nat), s.st = .transmitSelf → s.clock ≤ now → s.txStart = some t →
    ∃ ev : List Event,
      ev = (if s.pending = true ∧ s.cfg.tStartDelay + s.cfg.tFrontPorch < now - t then [.txWrite s.txBuf] else []) ∧
      (now - t ≤ s.cfg.tFrameTime → exec (.stepTransmitSelf now inp) s = .next { afterPoll now s with
        gate := s.gate || decide (s.cfg.tStartDelay < now - t)
        pending := s.pending && decide (now - t ≤ s.cfg.tStartDelay + s.cfg.tFrontPorch)
        events := ev, result := .none }) ∧
      (s.cfg.tFrameTime < now - t → exec (.stepTransmitSelf now inp) s = .next { afterPoll now s with
        gate := false, pending := s.pending && decide (now - t ≤ s.cfg.tStartDelay + s.cfg.tFrontPorch)
        events := ev, txStart := none, tLast := now, idx := 0, st := .awaitHeaterReplyToSelf })

/-- R167, R168: the two closing states each move on in one pass and change nothing else; a byte polled is dropped. -/
def Obligations.ClosingStates : Prop :=
  ∀ (s : State) (now : Nat) (inp : Inp), s.clock ≤ now →
    (s.st = .reportSelfExchange →
      exec (.stepReportSelfExchange now inp) s = .next { afterPoll now s with st := .housekeeping }) ∧
    (s.st = .housekeeping → exec (.stepHousekeeping now inp) s = .next { afterPoll now s with st := .idle })

/-- R154: `RECYCLE` empties the receive path, restarts collection, counts itself modulo 2^32 and emits its event. -/
def Obligations.RecycleOperation : Prop :=
  ∀ s : State, ∃ t : State, exec .recycle s = .next t ∧
    t = { s with rxFifo := [], idx := 0, recycleCount := t.recycleCount, configOpen := false,
                 events := [.recycle], result := .none } ∧
    t.recycleCount.toNat = (s.recycleCount.toNat + 1) % 2 ^ 32

/-- A row of `STEP` in a state that selects another row, and a pass before an earlier one, have no meaning: both are refused
by name (R92, R151; the refusals are the model's, entries 7 and 9). -/
def Obligations.PassNeedsItsStateAndItsTime : Prop :=
  (∀ (r : BusState) (now : Nat) (inp : Inp) (s : State), s.st ≠ r →
    exec (stepRow r now inp) s = .refused .rowNotSelected) ∧
  ∀ (now : Nat) (inp : Inp) (s : State), now < s.clock → exec (stepRow s.st now inp) s = .refused .timeRanBack

/-- R151: in every state and for every input in range a pass has an outcome, and it is a next state. -/
def Obligations.EveryPassCompletes : Prop :=
  ∀ (s : State) (now : Nat) (inp : Inp), EngineInv s → s.clock ≤ now →
    inRange s.cfg.tempByteSigned (selectBasis s) inp → ∃ t, exec (stepRow s.st now inp) s = .next t

/-- The state register changes only in a pass, by a move of the table of R170, or by `RESET`; so `Idle` is entered only from
`Housekeeping` or by reset (R24, R151, R170). -/
def Obligations.OnlyTheTablesMoves : Prop :=
  ∀ (i : Instr) (s t : State), exec i s = .next t → t.st ≠ s.st →
    ((∃ now inp, i = stepRow s.st now inp) ∧ transition s.st t.st = true) ∨ ((∃ t0, i = .reset t0) ∧ t.st = .idle)

/-- R171: in a state without a buffer a byte taken by the poll phase leaves the FIFO, refreshes `tLast` and is stored
nowhere. -/
def Obligations.ByteWithoutBufferIsDropped : Prop :=
  ∀ (s t : State) (now : Nat) (inp : Inp) (b : Byte) (rest : List Byte),
    s.st ≠ .idle → collecting s.st = false → s.rxFifo = b :: rest → exec (stepRow s.st now inp) s = .next t →
    t.bufOEM = s.bufOEM ∧ t.bufHM = s.bufHM ∧ t.bufHS = s.bufHS ∧ t.tLast = now ∧
    (t.rxFifo = rest ∨ (t.rxFifo = [] ∧ Event.recycle ∈ t.events))

/-- R169, R72: a heater snapshot appears only in a heater validate state, from that state's own verified buffer; a heater
buffer is filled only in its own await state; and every recycle lands in `Housekeeping`. -/
def Obligations.ExchangeValidity : Prop :=
  ∀ (i : Instr) (s t : State), exec i s = .next t → (∀ t0, i ≠ .reset t0) →
    (t.pubHtr ≠ s.pubHtr → ∃ now inp,
      (i = .stepValidateHeaterReplyToMaster now inp ∧ s.st = .validateHeaterReplyToMaster ∧
        verifyCrc s.bufHM = true ∧ t.pubHtr = some ⟨⟨s.bufHM, .heater⟩, now⟩) ∨
      (i = .stepValidateHeaterReplyToSelf now inp ∧ s.st = .validateHeaterReplyToSelf ∧
        verifyCrc s.bufHS = true ∧ t.pubHtr = some ⟨⟨s.bufHS, .heater⟩, now⟩)) ∧
    (t.bufHM ≠ s.bufHM → s.st = .awaitHeaterReplyToMaster) ∧
    (t.bufHS ≠ s.bufHS → s.st = .awaitHeaterReplyToSelf) ∧
    (Event.recycle ∈ t.events → i ≠ .recycle → t.st = .housekeeping)

/-- R172, an inference of the spec's own, on a silent bus: passes that lie further apart than every wait bring the engine
back to `Idle` within five. -/
def Obligations.ReturnToIdle : Prop :=
  ∀ (s : State) (l : List (Nat × Inp)), EngineInv s → s.rxFifo = [] → l.length = 5 →
    spaced (longPause s.cfg.toCfg) s.clock l →
    ∃ k, k ≤ 5 ∧ ∃ t, passes (l.take k) s = .next t ∧ t.st = .idle

/-- R180, R10, R262 (c): before reset release `TX_CONFIG` takes three intervals with `frameTime` above the sum of the others
and rejects any other; after it has run, or after reset release, it is refused; and a configuration is constructed exactly
when it keeps every constraint (R8, U17). When reset counts as released, and that rejection is a stop, are the model's
choices (entries 31 and 11). -/
def Obligations.TxConfigOperation : Prop :=
  (∀ (startDelay frontPorch frameTime : Nat) (s : State),
    (s.configOpen = true → startDelay + frontPorch < frameTime → ∃ c : ValidCfg,
      c.toCfg = { s.cfg.toCfg with tStartDelay := startDelay, tFrontPorch := frontPorch, tFrameTime := frameTime } ∧
      exec (.txConfig startDelay frontPorch frameTime) s = .next { s with
        cfg := c, configOpen := false, events := [], result := .none }) ∧
    (s.configOpen = true → frameTime ≤ startDelay + frontPorch →
      exec (.txConfig startDelay frontPorch frameTime) s = .fault .invalidConfig) ∧
    (s.configOpen = false → exec (.txConfig startDelay frontPorch frameTime) s = .refused .configClosed)) ∧
  ∀ c : Cfg,
    (c.tMargin ≤ c.tFrameInterval ∧ c.tStartDelay + c.tFrontPorch < c.tFrameTime ∧ verifyCrc c.defaultBasis = true ∧
        c.defaultBasis[1] = 0x16#8 ∧ 0 ≤ c.kCable → ∃ v : ValidCfg, construct c = .ok v ∧ v.toCfg = c) ∧
    (c.tFrameInterval < c.tMargin ∨ c.tFrameTime ≤ c.tStartDelay + c.tFrontPorch ∨ verifyCrc c.defaultBasis = false ∨
        c.defaultBasis[1] ≠ 0x16#8 ∨ c.kCable < 0 → construct c = .error .invalidConfig)

/-- R39, R180: the configuration is constant for the life of the engine: no operation but `TX_CONFIG` changes it, and once an
operation on the engine has run nothing does, in one step or in a run (that an operation on the engine ends the time of
`TX_CONFIG` is the model's choice, entry 31). -/
def Obligations.ConfigurationIsConstant : Prop :=
  (∀ (i : Instr) (s t : State), exec i s = .next t →
    ((∀ a b c, i ≠ .txConfig a b c) → t.cfg = s.cfg) ∧
    (t.cfg ≠ s.cfg → s.configOpen = true ∧ t.configOpen = false)) ∧
  ∀ s t : State, s.configOpen = false → step s = .next t → t.cfg = s.cfg ∧ t.configOpen = false

/-- R181, R262 (a): `TX_START` records the start and marks the write pending; while a cycle is in flight it changes nothing
but the sticky reason. -/
def Obligations.TxStartOperation : Prop :=
  ∀ (now : Nat) (s : State), s.clock ≤ now →
    (s.txStart = none → exec (.txStart now) s = .next { s with
      txStart := some now, pending := true, clock := now, configOpen := false, events := [], result := .none }) ∧
    (∀ t, s.txStart = some t → exec (.txStart now) s = .next { s with
      fault := some .startWhileActive, clock := now, configOpen := false, events := [], result := .none })

/-- R182, R262 (b): the three clauses of `TX_CHECK` on the elapsed time, with their strict comparisons, and the sticky
reason when no cycle is in flight. -/
def Obligations.TxCheckOperation : Prop :=
  ∀ (now : Nat) (s : State), s.clock ≤ now →
    (s.txStart = none → exec (.txCheck now) s = .next { s with
      fault := some .checkWithoutStart, clock := now, configOpen := false, events := [], result := .tx .done }) ∧
    ∀ t, s.txStart = some t → exec (.txCheck now) s = .next { s with
      clock := now, configOpen := false
      gate := if s.cfg.tFrameTime < now - t then false else s.gate || decide (s.cfg.tStartDelay < now - t)
      events := if s.pending = true ∧ s.cfg.tStartDelay + s.cfg.tFrontPorch < now - t then [.txWrite s.txBuf] else []
      pending := s.pending && decide (now - t ≤ s.cfg.tStartDelay + s.cfg.tFrontPorch)
      txStart := if s.cfg.tFrameTime < now - t then none else some t
      result := .tx (if s.cfg.tFrameTime < now - t then .done else .busy) }

/-- R183, R184, R207, R261: a master frame, for inputs in range: the command, the active header, the tuning fields of the
input record, the three bytes of the composer, a new checksum, and every other byte of the basis. Other inputs are
refused. -/
def Obligations.PrepareMasterFrame : Prop :=
  ∀ (basis : Raw) (inp : Inp) (s : State),
    (inRange s.cfg.tempByteSigned basis inp → ∃ f y : Raw,
      exec (.prepareFrame basis true inp) s = .next { s with
        cq := { s.cq with raw := none }, configOpen := false, events := [], result := .prepared ⟨f, .controller⟩ } ∧
      f[0] = 0x76#8 ∧
      f[2] = (match s.cq.raw with
        | some r => r
        | none => if s.cq.on then s.cfg.cmdOn else if s.cq.off then s.cfg.cmdOff else 0x00#8) ∧
      (f[5].toNat : Int) = ⌊inp.pumpMin * 10 + 1 / 2⌋ ∧ (f[6].toNat : Int) = ⌊inp.pumpMax * 10 + 1 / 2⌋ ∧
      (wide f 7 8 : Int) = inp.fanMin ∧ (wide f 9 10 : Int) = inp.fanMax ∧
      (f[11].toNat : Int) = ⌊inp.sysVoltage * 10 + 1 / 2⌋ ∧ f[12] = inp.sensorSelect ∧ f[16] = inp.glowDrive ∧
      compose s.cfg.tempByteSigned inp basis = .ok y ∧ f[3] = y[3] ∧ f[4] = y[4] ∧ f[13] = y[13] ∧
      verifyCrc f = true ∧ sameExcept [0, 2, 3, 4, 5, 6, 7, 8, 9, 10, 11, 12, 13, 16, 22, 23] basis f) ∧
    (¬ inRange s.cfg.tempByteSigned basis inp → ∃ r : Refusal, (r = .fieldRange ∨ r = .composerDomain) ∧
      exec (.prepareFrame basis true inp) s = .refused r)

/-- R183, R184: a parroted frame: the command, the passive header, a new checksum, and every other byte of the basis,
whatever the input record holds. The raw override wins over On, On over Off, and is consumed. That the basis's command byte
is replaced, by 0x00 when nothing is queued, is the model's choice between R183 and R94 with U10 (entry 30). -/
def Obligations.PrepareParrotFrame : Prop :=
  ∀ (basis : Raw) (inp : Inp) (s : State), ∃ f : Raw,
    exec (.prepareFrame basis false inp) s = .next { s with
      cq := { s.cq with raw := none }, configOpen := false, events := [], result := .prepared ⟨f, .controller⟩ } ∧
    f[0] = 0x78#8 ∧
    f[2] = (match s.cq.raw with
      | some r => r
      | none => if s.cq.on then s.cfg.cmdOn else if s.cq.off then s.cfg.cmdOff else 0x00#8) ∧
    verifyCrc f = true ∧ sameExcept [0, 2, 22, 23] basis f

/-- R201: with thermostat control disabled the flag is off, the temperature is 0 and the demand is the fixed one. -/
def Obligations.ComposeDisabledOperation : Prop :=
  ∀ (x : Raw) (inp : Inp) (s : State), ∃ y : Raw,
    exec (.composeDisabled x inp) s = .next { s with events := [], result := .raw y } ∧
    y[13] = 0xCD#8 ∧ y[3] = 0x00#8 ∧ y[4] = inp.fixedDemand ∧ sameExcept [3, 4, 13] x y

/-- R202, R206: the Standard method reports the rounded sensed temperature and the rounded setpoint, and is refused when
either does not fit its byte. -/
def Obligations.ComposeStandardOperation : Prop :=
  ∀ (x : Raw) (inp : Inp) (s : State),
    (fitsDegrees s.cfg.tempByteSigned ⌊inp.sensed + 1 / 2⌋ →
      fitsDegrees s.cfg.tempByteSigned ⌊inp.desired + 1 / 2⌋ → ∃ y : Raw,
      exec (.composeStandard x inp) s = .next { s with events := [], result := .raw y } ∧ y[13] = 0x32#8 ∧
      degreesOf s.cfg.tempByteSigned y[3] = ⌊inp.sensed + 1 / 2⌋ ∧
      degreesOf s.cfg.tempByteSigned y[4] = ⌊inp.desired + 1 / 2⌋ ∧ sameExcept [3, 4, 13] x y) ∧
    (¬ (fitsDegrees s.cfg.tempByteSigned ⌊inp.sensed + 1 / 2⌋ ∧
        fitsDegrees s.cfg.tempByteSigned ⌊inp.desired + 1 / 2⌋) →
      exec (.composeStandard x inp) s = .refused .fieldRange)

/-- R205, R206: the WindowedHysteresis method holds at the setpoint inside the half-window, nudges by one degree up to one
degree away, and reports the rounded sensed temperature beyond; refused when a temperature does not fit its byte. -/
def Obligations.ComposeWindowedOperation : Prop :=
  ∀ (x : Raw) (inp : Inp) (s : State) (reported : Int),
    (|inp.sensed - inp.desired| < inp.window / 2 → reported = ⌊inp.desired + 1 / 2⌋) →
    (inp.window / 2 ≤ |inp.sensed - inp.desired| → |inp.sensed - inp.desired| ≤ 1 →
      (inp.desired < inp.sensed → reported = ⌊inp.desired + 1 / 2⌋ + 1) ∧
      (inp.sensed < inp.desired → reported = ⌊inp.desired + 1 / 2⌋ - 1) ∧
      (inp.sensed = inp.desired → reported = ⌊inp.desired + 1 / 2⌋)) →
    (inp.window / 2 ≤ |inp.sensed - inp.desired| → 1 < |inp.sensed - inp.desired| →
      reported = ⌊inp.sensed + 1 / 2⌋) →
    (fitsDegrees s.cfg.tempByteSigned reported →
      fitsDegrees s.cfg.tempByteSigned ⌊inp.desired + 1 / 2⌋ → ∃ y : Raw,
      exec (.composeWindowed x inp) s = .next { s with events := [], result := .raw y } ∧ y[13] = 0x32#8 ∧
      degreesOf s.cfg.tempByteSigned y[3] = reported ∧
      degreesOf s.cfg.tempByteSigned y[4] = ⌊inp.desired + 1 / 2⌋ ∧ sameExcept [3, 4, 13] x y) ∧
    (¬ (fitsDegrees s.cfg.tempByteSigned reported ∧
        fitsDegrees s.cfg.tempByteSigned ⌊inp.desired + 1 / 2⌋) →
      exec (.composeWindowed x inp) s = .refused .fieldRange)

/-- R203, R204: the LinearHz method writes the demand, linear in the error, clamped to the range of bytes 14 and 15 and
rounded half up, with the flag off and the temperature 0; without a positive window or an ordered range it is refused. -/
def Obligations.ComposeLinearHzOperation : Prop :=
  ∀ (x : Raw) (inp : Inp) (s : State) (dmin dmax midpoint composed : ℚ),
    dmin = x[14].toNat → dmax = x[15].toNat → midpoint = (dmax + dmin) / 2 →
    composed = midpoint - (inp.sensed - inp.desired) / (inp.window / 2) * (dmax - midpoint) →
    (0 < inp.window / 2 → dmin ≤ dmax → ∃ y : Raw,
      exec (.composeLinearHz x inp) s = .next { s with events := [], result := .raw y } ∧
      y[13] = 0xCD#8 ∧ y[3] = 0x00#8 ∧ (y[4].toNat : Int) = ⌊max dmin (min dmax composed) + 1 / 2⌋ ∧
      x[14].toNat ≤ y[4].toNat ∧ y[4].toNat ≤ x[15].toNat ∧ sameExcept [3, 4, 13] x y) ∧
    (inp.window / 2 ≤ 0 ∨ dmax < dmin → exec (.composeLinearHz x inp) s = .refused .composerDomain)

/-- R215: the four steps of `SFI_UPDATE` on the run state before and after. -/
def Obligations.SfiUpdateOperation : Prop :=
  ∀ (next : Byte) (s : State), ∃ t : State,
    exec (.sfiUpdate next) s = .next t ∧
    t = { s with sfi := t.sfi, cq := t.cq, configOpen := false, events := [], result := .none } ∧
    t.sfi.prev = next ∧ t.cq.raw = s.cq.raw ∧
    t.cq.on = (s.cq.on && decide (next.toNat < 2)) ∧
    t.cq.off = (s.cq.off && decide (0 < next.toNat ∧ next.toNat < 7)) ∧
    (s.sfi.prev = 0#8 → next ≠ 0#8 → t.sfi.code = .none ∧ t.sfi.inhibited = false) ∧
    (¬ (s.sfi.prev = 0#8 ∧ next ≠ 0#8) → t.sfi.inhibited = s.sfi.inhibited ∧
      (s.sfi.inhibited = false → s.sfi.prev = 2#8 → t.sfi.code =
        if next = 4#8 then .none else if next = 3#8 then .ignitionRetry
        else if 5 < next.toNat then .ignitionFail else s.sfi.code) ∧
      (s.sfi.inhibited = true ∨ s.sfi.prev ≠ 2#8 → t.sfi.code = s.sfi.code))

/-- R218: strictly below the threshold, with the cable drop added back, the code is LowVolts and Off replaces On; else
nothing changes. -/
def Obligations.CheckVoltsOperation : Prop :=
  ∀ (f : Frame) (inp : Inp) (s : State) (comp : ℚ), f.valid .heater = true →
    comp = (wide f.bytes 4 5 : ℚ) / 10 + s.cfg.kCable * ((wide f.bytes 14 15 : ℚ) / 100) →
    (comp < inp.lowVoltThreshold → exec (.checkVolts f inp) s = .next { s with
      sfi := { s.sfi with code := .lowVolts }, cq := { s.cq with on := false, off := true }
      configOpen := false, events := [], result := .none }) ∧
    (inp.lowVoltThreshold ≤ comp → exec (.checkVolts f inp) s =
      .next { s with configOpen := false, events := [], result := .none })

/-- R216, R217, R235, R236, R237: the writes of the host: the two controls of fault inference and the three requests. -/
def Obligations.HostWrites : Prop :=
  ∀ s : State,
    exec .sfiInhibit s = .next { s with
      sfi := { s.sfi with inhibited := true }, configOpen := false, events := [], result := .none } ∧
    exec .sfiReset s = .next { s with
      sfi := { s.sfi with code := .none, inhibited := false }, configOpen := false, events := [], result := .none } ∧
    exec (.reqOn true) s = .next { s with
      cq := { s.cq with on := true, off := false }, configOpen := false, events := [], result := .none } ∧
    exec (.reqOn false) s = .next { s with
      cq := { s.cq with on := false }, configOpen := false, events := [], result := .none } ∧
    exec (.reqOff true) s = .next { s with
      cq := { s.cq with on := false, off := true }, configOpen := false, events := [], result := .none } ∧
    exec (.reqOff false) s = .next { s with
      cq := { s.cq with off := false }, configOpen := false, events := [], result := .none } ∧
    ∀ b : Byte, exec (.reqRaw b) s = .next { s with
      cq := { s.cq with raw := some b }, configOpen := false, events := [], result := .none }

/-- R238, R239, R240, R242, R243: the reads of the host answer the snapshots, the inferred code with the two raw error bytes,
and the status record, and change nothing. -/
def Obligations.HostReads : Prop :=
  ∀ s : State,
    exec .rdOemFrame s = .next { s with events := [], result := .snapshot s.pubOEM } ∧
    exec .rdHtrFrame s = .next { s with events := [], result := .snapshot s.pubHtr } ∧
    exec .rdFault s = .next { s with
      events := [], result := .faults s.sfi.code (s.pubHtr.map fun p => (p.frame.bytes[3], p.frame.bytes[17])) } ∧
    exec .rdStatus s = .next { s with
      events := [],
      result := .status ⟨s.master, s.heaterResponding, s.oemKind, s.recycleCount, s.st, s.gate, s.fault⟩ }

/-- R244, R44, R280: `RESET(t0)` puts every element at its reset value from any state; the buffers, whose value the spec
leaves open, are not constrained here. -/
def Obligations.ResetOperation : Prop :=
  ∀ (t0 : Nat) (s : State), ∃ t : State, exec (.reset t0) s = .next t ∧ t.st = .idle ∧ t.master = .none ∧
    t.tLast = t0 ∧ t.tReport = t0 ∧ t.idx = 0 ∧ t.rxFifo = [] ∧ t.txStart = none ∧ t.pending = false ∧
    t.gate = false ∧ t.cq = ⟨false, false, none⟩ ∧ t.sfi = ⟨0#8, .none, false⟩ ∧ t.pubOEM = none ∧
    t.pubHtr = none ∧ t.oemKind = .none ∧ t.heaterResponding = false ∧ t.recycleCount = 0#32 ∧ t.tLog = none ∧
    t.fault = none ∧ t.events = [] ∧ t.cfg = s.cfg ∧ t.configOpen = false

/-- R247: no operation of the host but `RESET` touches what belongs to the engine, and of the fault inference it can only
clear the code. -/
def Obligations.HostCannotTouchTheEngine : Prop :=
  ∀ (i : Instr) (s : State), byHost i → ∃ t : State, exec i s = .next t ∧
    t = { s with cq := t.cq, sfi := t.sfi, configOpen := t.configOpen, events := [], result := t.result } ∧
    t.sfi.prev = s.sfi.prev ∧
    (t.sfi.code = s.sfi.code ∨ (i = .sfiReset ∧ t.sfi.code = .none))

/-- The machine right after reset satisfies the invariants, those of the agents' operations among them (R44, R45; the
configuration and the buffers it carries are the model's choice, entries 4 and 6). -/
def Obligations.ResetSatisfiesInvariants : Prop := EngineInv State.reset

/-- Every step, whatever line it takes, keeps the invariants of R45 (a), (b), (c), (e), (f), (g) and what they rest on. -/
def Obligations.EveryStepKeepsInvariant : Prop := ∀ s t : State, StateInv s → step s = .next t → StateInv t

/-- Every operation an agent performs keeps, besides, R45 (d), the verified frame in flight (R71) and the empty fault
register (R186). -/
def Obligations.AgentsKeepEngineInvariant : Prop :=
  ∀ (i : Instr) (s t : State), byAgent i = true → EngineInv s → exec i s = .next t → EngineInv t

/-- R70, R71: while a frame is in flight nothing an agent does changes it, `RESET` apart, and what the wire carries is that
frame, which verifies. -/
def Obligations.FrameInFlightIsFrozen : Prop :=
  ∀ (i : Instr) (s t : State), byAgent i = true → EngineInv s → exec i s = .next t →
    (s.st = .transmitSelf → (∀ t0, i ≠ .reset t0) → t.txBuf = s.txBuf) ∧
    ∀ x : Raw, Event.txWrite x ∈ t.events → x = s.txBuf ∧ verifyCrc x = true

/-- R270: nothing but the next log line depends on `tLog`. -/
def Obligations.LogIsNotArchitectural : Prop :=
  ∀ (i : Instr) (s : State), mapNext forgetLog (exec i (forgetLog s)) = mapNext forgetLog (exec i s)

/-- R267: no rule reads `master`: but for the status read, two states that differ in it only behave alike. -/
def Obligations.MasterIsNeverRead : Prop :=
  ∀ (i : Instr) (s : State), i ≠ .rdStatus →
    mapNext forgetMaster (exec i (forgetMaster s)) = mapNext forgetMaster (exec i s)

/-- R40: outside a master frame's preparation, the input record reaches a pass through `lowVoltThreshold` alone. -/
def Obligations.InputIsSampledOnlyWhereUsed : Prop :=
  ∀ (s : State) (now : Nat) (a b : Inp), a.lowVoltThreshold = b.lowVoltThreshold →
    (s.st = .idle → s.rxFifo ≠ [] ∨ now - s.tLast ≤ s.cfg.tSilence) →
    exec (stepRow s.st now a) s = exec (stepRow s.st now b) s
end

