-- ==== Sys2Proof/Laws/Codec.lean ====
section
/-! SUPPORT. The operand encoding read back: each reader undoes its writer and leaves the rest of the code. -/

namespace Sys2Proof

@[simp] theorem andThen_ok {α β : Type} (a : α) (rest : List Byte)
    (k : α → List Byte → Except DecodeError β) : andThen (.ok (a, rest)) k = k a rest := rfl

@[simp] theorem andThen_error {α β : Type} (e : DecodeError) (k : α → List Byte → Except DecodeError β) :
    andThen (.error e) k = .error e := rfl

@[simp] theorem decByte_cons (b : Byte) (rest : List Byte) : decByte (b :: rest) = .ok (b, rest) := rfl

@[simp] theorem decBool_encBool (v : Bool) (rest : List Byte) : decBool (encBool v ++ rest) = .ok (v, rest) := by
  cases v <;> rfl

@[simp] theorem decRole_roleCode (r : Role) (rest : List Byte) : decRole (roleCode r :: rest) = .ok (r, rest) := by
  cases r <;> rfl

@[simp] theorem decView_viewCode (v : DemandView) (rest : List Byte) : decView (viewCode v :: rest) = .ok (v, rest) := by
  cases v <;> rfl

theorem decNat_encNatFuel (fuel n : Nat) (rest : List Byte) (h : n ≤ fuel) :
    decNat (encNatFuel fuel n ++ rest) = .ok (n, rest) := by
  induction fuel generalizing n with
  | zero =>
    obtain rfl : n = 0 := by omega
    simp [encNatFuel, decNat]
  | succ k ih =>
    unfold encNatFuel
    split
    · rename_i hn
      have : n % 256 = n := by omega
      simp [decNat, this, hn]
    · rename_i hn
      have h1 : (128 + n % 128) % 256 = 128 + n % 128 := by omega
      have h2 : 128 + n % 128 - 128 + 128 * (n / 128) = n := by omega
      simp [decNat, h1, ih (n / 128) (by omega)]
      omega

@[simp] theorem decNat_encNat (n : Nat) (rest : List Byte) : decNat (encNat n ++ rest) = .ok (n, rest) :=
  decNat_encNatFuel n n rest le_rfl

@[simp] theorem decInt_encInt (v : Int) (rest : List Byte) : decInt (encInt v ++ rest) = .ok (v, rest) := by
  cases v with
  | ofNat n => simp [encInt, decInt]
  | negSucc n =>
    have h1 : (2 * n + 1) % 2 ≠ 0 := by omega
    have h2 : (2 * n + 1) / 2 = n := by omega
    have h3 : -(n : Int) - 1 = Int.negSucc n := by omega
    simp only [encInt, decInt, decNat_encNat, andThen_ok, h1, h2, if_false, h3]

@[simp] theorem decRat_encRat (q : ℚ) (rest : List Byte) : decRat (encRat q ++ rest) = .ok (q, rest) := by
  have h : q.den - 1 + 1 = q.den := Nat.sub_add_cancel q.den_pos
  simp [encRat, decRat, List.append_assoc, h]

@[simp] theorem decVector_toList {n : Nat} (v : Vector Byte n) (rest : List Byte) :
    decVector n (v.toList ++ rest) = .ok (v, rest) := by
  have h1 : (v.toList ++ rest).take n = v.toList := by
    rw [List.take_append_of_le_length (by simp), List.take_of_length_le (by simp)]
  have h2 : (v.toList ++ rest).drop n = rest := by
    rw [List.drop_append_of_le_length (by simp)]; simp
  unfold decVector
  rw [dif_pos (by simp)]
  simp only [h2]
  congr 2
  apply Vector.toArray_inj.mp
  simp only [h1]
  rfl

@[simp] theorem decData_encData (data rest : List Byte) : decData (encData data ++ rest) = .ok (data, rest) := by
  simp [encData, decData, List.append_assoc]

end Sys2Proof
end

