-- ==== Sys2Proof/Laws/Crc.lean ====
section
/-! SUPPORT. The checksum and the frame space: what a write reads back as, and what `SET_CRC` leaves (R62, R113 to R118). -/

namespace Sys2Proof.Machine

@[simp] theorem hiByte_append_loByte (v : Half) : hiByte v ++ loByte v = v := by
  unfold hiByte loByte
  ext i hi
  simp only [BitVec.getElem_append, BitVec.getElem_extractLsb']
  split
  · simp [BitVec.getLsbD_eq_getElem hi]
  · have : 8 + (i - 8) = i := by omega
    simp [this, BitVec.getLsbD_eq_getElem hi]

/-- What stands in bytes 22 and 23 does not enter the checksum. -/
theorem payload_congr {x y : Raw} (h : ∀ i : Fin 24, i.val < 22 → x[i] = y[i]) : payload x = payload y := by
  apply List.ext_getElem
  · simp [payload]
  · intro i h1 h2
    have hi : i < 22 := by simp [payload] at h1; omega
    have := h ⟨i, by omega⟩ hi
    simpa [payload] using this

@[simp] theorem payload_length (x : Raw) : (payload x).length = 22 := by simp [payload]

/-- A two-byte write leaves every other byte (R13). -/
theorem memWrite2_getElem {x : Raw} {v : Half} {hi lo : Fin 24} {i : Nat} (h : i < 24) (h1 : hi.val ≠ i)
    (h2 : lo.val ≠ i) : (memWrite2 x hi lo v)[i] = x[i] := by
  simp only [memWrite2, Vector.getElem_set, h1, h2, if_false]

/-- A two-byte write reads back (R62). -/
theorem memRead2_memWrite2 {x : Raw} {v : Half} {hi lo : Fin 24} (h : hi ≠ lo) :
    memRead2 (memWrite2 x hi lo v) hi lo = v := by
  have h' : lo.val ≠ hi.val := fun e => h (Fin.ext e.symm)
  simp only [memRead2, memWrite2, Fin.getElem_fin, Vector.getElem_set, h', if_true, if_false,
    hiByte_append_loByte]

/-- `SET_CRC` changes bytes 22 and 23 only (R113). -/
theorem setCrc_getElem (x : Raw) {i : Nat} (h : i < 22) : (setCrc x)[i] = x[i] :=
  memWrite2_getElem (by omega) (by simp; omega) (by simp; omega)

@[simp] theorem payload_setCrc (x : Raw) : payload (setCrc x) = payload x :=
  payload_congr fun _ hi => setCrc_getElem x hi

/-- `SET_CRC` stores the checksum (R113). -/
@[simp] theorem storedCrc_setCrc (x : Raw) : storedCrc (setCrc x) = crc16 (payload x) :=
  memRead2_memWrite2 (by decide)

/-- What `PARSE` answers (R115). -/
theorem parse_eq_some {x : Raw} {r : Role} {f : Frame} :
    parse x r = some f ↔ verifyCrc x = true ∧ f = ⟨x, r⟩ := by
  unfold parse
  split
  · rename_i h
    exact ⟨fun e => ⟨h, (Option.some.inj e).symm⟩, fun e => e.2 ▸ rfl⟩
  · rename_i h
    exact ⟨(fun e => nomatch e), fun e => absurd e.1 h⟩

/-- A frame that `PARSE` answers is a validated frame of its role (R115). -/
theorem valid_of_parse {x : Raw} {r : Role} {f : Frame} (h : parse x r = some f) : f.valid r = true := by
  obtain ⟨hv, rfl⟩ := parse_eq_some.mp h
  simp only [Frame.valid, decide_true, Bool.true_and, hv]

theorem parse_eq_none {x : Raw} {r : Role} : parse x r = none ↔ verifyCrc x = false := by
  unfold parse
  split
  · rename_i h
    exact ⟨(fun e => nomatch e), fun e => absurd (h.symm.trans e) (by decide)⟩
  · rename_i h
    exact ⟨fun _ => Bool.eq_false_iff.mpr h, fun _ => rfl⟩

end Sys2Proof.Machine
end

