-- ==== Sys2Proof/Laws/State.lean ====
section
/-! SUPPORT. What each named update does to each field of the state: one lemma per field per update, for `simp`, so that no
later proof unfolds a record update. -/

namespace Sys2Proof.Machine

@[simp] theorem fresh_cfg (s : State) : (fresh s).cfg = s.cfg := rfl
@[simp] theorem fresh_st (s : State) : (fresh s).st = s.st := rfl
@[simp] theorem fresh_master (s : State) : (fresh s).master = s.master := rfl
@[simp] theorem fresh_tLast (s : State) : (fresh s).tLast = s.tLast := rfl
@[simp] theorem fresh_tReport (s : State) : (fresh s).tReport = s.tReport := rfl
@[simp] theorem fresh_idx (s : State) : (fresh s).idx = s.idx := rfl
@[simp] theorem fresh_bufOEM (s : State) : (fresh s).bufOEM = s.bufOEM := rfl
@[simp] theorem fresh_bufHM (s : State) : (fresh s).bufHM = s.bufHM := rfl
@[simp] theorem fresh_bufHS (s : State) : (fresh s).bufHS = s.bufHS := rfl
@[simp] theorem fresh_txBuf (s : State) : (fresh s).txBuf = s.txBuf := rfl
@[simp] theorem fresh_rxFifo (s : State) : (fresh s).rxFifo = s.rxFifo := rfl
@[simp] theorem fresh_txStart (s : State) : (fresh s).txStart = s.txStart := rfl
@[simp] theorem fresh_pending (s : State) : (fresh s).pending = s.pending := rfl
@[simp] theorem fresh_gate (s : State) : (fresh s).gate = s.gate := rfl
@[simp] theorem fresh_cq (s : State) : (fresh s).cq = s.cq := rfl
@[simp] theorem fresh_sfi (s : State) : (fresh s).sfi = s.sfi := rfl
@[simp] theorem fresh_pubOEM (s : State) : (fresh s).pubOEM = s.pubOEM := rfl
@[simp] theorem fresh_pubHtr (s : State) : (fresh s).pubHtr = s.pubHtr := rfl
@[simp] theorem fresh_oemKind (s : State) : (fresh s).oemKind = s.oemKind := rfl
@[simp] theorem fresh_heaterResponding (s : State) : (fresh s).heaterResponding = s.heaterResponding := rfl
@[simp] theorem fresh_recycleCount (s : State) : (fresh s).recycleCount = s.recycleCount := rfl
@[simp] theorem fresh_tLog (s : State) : (fresh s).tLog = s.tLog := rfl
@[simp] theorem fresh_fault (s : State) : (fresh s).fault = s.fault := rfl
@[simp] theorem fresh_clock (s : State) : (fresh s).clock = s.clock := rfl
@[simp] theorem fresh_configOpen (s : State) : (fresh s).configOpen = false := rfl
@[simp] theorem fresh_script (s : State) : (fresh s).script = s.script := rfl
@[simp] theorem fresh_events (s : State) : (fresh s).events = [] := rfl
@[simp] theorem fresh_result (s : State) : (fresh s).result = .none := rfl

@[simp] theorem answer_cfg (r : Result) (s : State) : (answer r s).cfg = s.cfg := rfl
@[simp] theorem answer_st (r : Result) (s : State) : (answer r s).st = s.st := rfl
@[simp] theorem answer_master (r : Result) (s : State) : (answer r s).master = s.master := rfl
@[simp] theorem answer_tLast (r : Result) (s : State) : (answer r s).tLast = s.tLast := rfl
@[simp] theorem answer_tReport (r : Result) (s : State) : (answer r s).tReport = s.tReport := rfl
@[simp] theorem answer_idx (r : Result) (s : State) : (answer r s).idx = s.idx := rfl
@[simp] theorem answer_bufOEM (r : Result) (s : State) : (answer r s).bufOEM = s.bufOEM := rfl
@[simp] theorem answer_bufHM (r : Result) (s : State) : (answer r s).bufHM = s.bufHM := rfl
@[simp] theorem answer_bufHS (r : Result) (s : State) : (answer r s).bufHS = s.bufHS := rfl
@[simp] theorem answer_txBuf (r : Result) (s : State) : (answer r s).txBuf = s.txBuf := rfl
@[simp] theorem answer_rxFifo (r : Result) (s : State) : (answer r s).rxFifo = s.rxFifo := rfl
@[simp] theorem answer_txStart (r : Result) (s : State) : (answer r s).txStart = s.txStart := rfl
@[simp] theorem answer_pending (r : Result) (s : State) : (answer r s).pending = s.pending := rfl
@[simp] theorem answer_gate (r : Result) (s : State) : (answer r s).gate = s.gate := rfl
@[simp] theorem answer_cq (r : Result) (s : State) : (answer r s).cq = s.cq := rfl
@[simp] theorem answer_sfi (r : Result) (s : State) : (answer r s).sfi = s.sfi := rfl
@[simp] theorem answer_pubOEM (r : Result) (s : State) : (answer r s).pubOEM = s.pubOEM := rfl
@[simp] theorem answer_pubHtr (r : Result) (s : State) : (answer r s).pubHtr = s.pubHtr := rfl
@[simp] theorem answer_oemKind (r : Result) (s : State) : (answer r s).oemKind = s.oemKind := rfl
@[simp] theorem answer_heaterResponding (r : Result) (s : State) : (answer r s).heaterResponding = s.heaterResponding := rfl
@[simp] theorem answer_recycleCount (r : Result) (s : State) : (answer r s).recycleCount = s.recycleCount := rfl
@[simp] theorem answer_tLog (r : Result) (s : State) : (answer r s).tLog = s.tLog := rfl
@[simp] theorem answer_fault (r : Result) (s : State) : (answer r s).fault = s.fault := rfl
@[simp] theorem answer_clock (r : Result) (s : State) : (answer r s).clock = s.clock := rfl
@[simp] theorem answer_configOpen (r : Result) (s : State) : (answer r s).configOpen = s.configOpen := rfl
@[simp] theorem answer_script (r : Result) (s : State) : (answer r s).script = s.script := rfl
@[simp] theorem answer_events (r : Result) (s : State) : (answer r s).events = [] := rfl
@[simp] theorem answer_result (r : Result) (s : State) : (answer r s).result = r := rfl

@[simp] theorem emit_cfg (e : Event) (s : State) : (emit e s).cfg = s.cfg := rfl
@[simp] theorem emit_st (e : Event) (s : State) : (emit e s).st = s.st := rfl
@[simp] theorem emit_master (e : Event) (s : State) : (emit e s).master = s.master := rfl
@[simp] theorem emit_tLast (e : Event) (s : State) : (emit e s).tLast = s.tLast := rfl
@[simp] theorem emit_tReport (e : Event) (s : State) : (emit e s).tReport = s.tReport := rfl
@[simp] theorem emit_idx (e : Event) (s : State) : (emit e s).idx = s.idx := rfl
@[simp] theorem emit_bufOEM (e : Event) (s : State) : (emit e s).bufOEM = s.bufOEM := rfl
@[simp] theorem emit_bufHM (e : Event) (s : State) : (emit e s).bufHM = s.bufHM := rfl
@[simp] theorem emit_bufHS (e : Event) (s : State) : (emit e s).bufHS = s.bufHS := rfl
@[simp] theorem emit_txBuf (e : Event) (s : State) : (emit e s).txBuf = s.txBuf := rfl
@[simp] theorem emit_rxFifo (e : Event) (s : State) : (emit e s).rxFifo = s.rxFifo := rfl
@[simp] theorem emit_txStart (e : Event) (s : State) : (emit e s).txStart = s.txStart := rfl
@[simp] theorem emit_pending (e : Event) (s : State) : (emit e s).pending = s.pending := rfl
@[simp] theorem emit_gate (e : Event) (s : State) : (emit e s).gate = s.gate := rfl
@[simp] theorem emit_cq (e : Event) (s : State) : (emit e s).cq = s.cq := rfl
@[simp] theorem emit_sfi (e : Event) (s : State) : (emit e s).sfi = s.sfi := rfl
@[simp] theorem emit_pubOEM (e : Event) (s : State) : (emit e s).pubOEM = s.pubOEM := rfl
@[simp] theorem emit_pubHtr (e : Event) (s : State) : (emit e s).pubHtr = s.pubHtr := rfl
@[simp] theorem emit_oemKind (e : Event) (s : State) : (emit e s).oemKind = s.oemKind := rfl
@[simp] theorem emit_heaterResponding (e : Event) (s : State) : (emit e s).heaterResponding = s.heaterResponding := rfl
@[simp] theorem emit_recycleCount (e : Event) (s : State) : (emit e s).recycleCount = s.recycleCount := rfl
@[simp] theorem emit_tLog (e : Event) (s : State) : (emit e s).tLog = s.tLog := rfl
@[simp] theorem emit_fault (e : Event) (s : State) : (emit e s).fault = s.fault := rfl
@[simp] theorem emit_clock (e : Event) (s : State) : (emit e s).clock = s.clock := rfl
@[simp] theorem emit_configOpen (e : Event) (s : State) : (emit e s).configOpen = s.configOpen := rfl
@[simp] theorem emit_script (e : Event) (s : State) : (emit e s).script = s.script := rfl
@[simp] theorem emit_events (e : Event) (s : State) : (emit e s).events = s.events ++ [e] := rfl
@[simp] theorem emit_result (e : Event) (s : State) : (emit e s).result = s.result := rfl

@[simp] theorem recycle_cfg (s : State) : (recycle s).cfg = s.cfg := rfl
@[simp] theorem recycle_st (s : State) : (recycle s).st = s.st := rfl
@[simp] theorem recycle_master (s : State) : (recycle s).master = s.master := rfl
@[simp] theorem recycle_tLast (s : State) : (recycle s).tLast = s.tLast := rfl
@[simp] theorem recycle_tReport (s : State) : (recycle s).tReport = s.tReport := rfl
@[simp] theorem recycle_idx (s : State) : (recycle s).idx = 0 := rfl
@[simp] theorem recycle_bufOEM (s : State) : (recycle s).bufOEM = s.bufOEM := rfl
@[simp] theorem recycle_bufHM (s : State) : (recycle s).bufHM = s.bufHM := rfl
@[simp] theorem recycle_bufHS (s : State) : (recycle s).bufHS = s.bufHS := rfl
@[simp] theorem recycle_txBuf (s : State) : (recycle s).txBuf = s.txBuf := rfl
@[simp] theorem recycle_rxFifo (s : State) : (recycle s).rxFifo = [] := rfl
@[simp] theorem recycle_txStart (s : State) : (recycle s).txStart = s.txStart := rfl
@[simp] theorem recycle_pending (s : State) : (recycle s).pending = s.pending := rfl
@[simp] theorem recycle_gate (s : State) : (recycle s).gate = s.gate := rfl
@[simp] theorem recycle_cq (s : State) : (recycle s).cq = s.cq := rfl
@[simp] theorem recycle_sfi (s : State) : (recycle s).sfi = s.sfi := rfl
@[simp] theorem recycle_pubOEM (s : State) : (recycle s).pubOEM = s.pubOEM := rfl
@[simp] theorem recycle_pubHtr (s : State) : (recycle s).pubHtr = s.pubHtr := rfl
@[simp] theorem recycle_oemKind (s : State) : (recycle s).oemKind = s.oemKind := rfl
@[simp] theorem recycle_heaterResponding (s : State) : (recycle s).heaterResponding = s.heaterResponding := rfl
@[simp] theorem recycle_recycleCount (s : State) : (recycle s).recycleCount = s.recycleCount + 1#32 := rfl
@[simp] theorem recycle_tLog (s : State) : (recycle s).tLog = s.tLog := rfl
@[simp] theorem recycle_fault (s : State) : (recycle s).fault = s.fault := rfl
@[simp] theorem recycle_clock (s : State) : (recycle s).clock = s.clock := rfl
@[simp] theorem recycle_configOpen (s : State) : (recycle s).configOpen = s.configOpen := rfl
@[simp] theorem recycle_script (s : State) : (recycle s).script = s.script := rfl
@[simp] theorem recycle_events (s : State) : (recycle s).events = s.events ++ [.recycle] := rfl
@[simp] theorem recycle_result (s : State) : (recycle s).result = s.result := rfl

@[simp] theorem recover_cfg (h : Bool) (e : Event) (s : State) : (recover h e s).cfg = s.cfg := rfl
@[simp] theorem recover_st (h : Bool) (e : Event) (s : State) : (recover h e s).st = .housekeeping := rfl
@[simp] theorem recover_master (h : Bool) (e : Event) (s : State) : (recover h e s).master = s.master := rfl
@[simp] theorem recover_tLast (h : Bool) (e : Event) (s : State) : (recover h e s).tLast = s.tLast := rfl
@[simp] theorem recover_tReport (h : Bool) (e : Event) (s : State) : (recover h e s).tReport = s.tReport := rfl
@[simp] theorem recover_idx (h : Bool) (e : Event) (s : State) : (recover h e s).idx = 0 := rfl
@[simp] theorem recover_bufOEM (h : Bool) (e : Event) (s : State) : (recover h e s).bufOEM = s.bufOEM := rfl
@[simp] theorem recover_bufHM (h : Bool) (e : Event) (s : State) : (recover h e s).bufHM = s.bufHM := rfl
@[simp] theorem recover_bufHS (h : Bool) (e : Event) (s : State) : (recover h e s).bufHS = s.bufHS := rfl
@[simp] theorem recover_txBuf (h : Bool) (e : Event) (s : State) : (recover h e s).txBuf = s.txBuf := rfl
@[simp] theorem recover_rxFifo (h : Bool) (e : Event) (s : State) : (recover h e s).rxFifo = [] := rfl
@[simp] theorem recover_txStart (h : Bool) (e : Event) (s : State) : (recover h e s).txStart = s.txStart := rfl
@[simp] theorem recover_pending (h : Bool) (e : Event) (s : State) : (recover h e s).pending = s.pending := rfl
@[simp] theorem recover_gate (h : Bool) (e : Event) (s : State) : (recover h e s).gate = s.gate := rfl
@[simp] theorem recover_cq (h : Bool) (e : Event) (s : State) : (recover h e s).cq = s.cq := rfl
@[simp] theorem recover_sfi (h : Bool) (e : Event) (s : State) : (recover h e s).sfi = s.sfi := rfl
@[simp] theorem recover_pubOEM (h : Bool) (e : Event) (s : State) : (recover h e s).pubOEM = s.pubOEM := rfl
@[simp] theorem recover_pubHtr (h : Bool) (e : Event) (s : State) : (recover h e s).pubHtr = s.pubHtr := rfl
@[simp] theorem recover_oemKind (h : Bool) (e : Event) (s : State) : (recover h e s).oemKind = s.oemKind := rfl
@[simp] theorem recover_heaterResponding (h : Bool) (e : Event) (s : State) : (recover h e s).heaterResponding = (s.heaterResponding && !h) := rfl
@[simp] theorem recover_recycleCount (h : Bool) (e : Event) (s : State) : (recover h e s).recycleCount = s.recycleCount + 1#32 := rfl
@[simp] theorem recover_tLog (h : Bool) (e : Event) (s : State) : (recover h e s).tLog = s.tLog := rfl
@[simp] theorem recover_fault (h : Bool) (e : Event) (s : State) : (recover h e s).fault = s.fault := rfl
@[simp] theorem recover_clock (h : Bool) (e : Event) (s : State) : (recover h e s).clock = s.clock := rfl
@[simp] theorem recover_configOpen (h : Bool) (e : Event) (s : State) : (recover h e s).configOpen = s.configOpen := rfl
@[simp] theorem recover_script (h : Bool) (e : Event) (s : State) : (recover h e s).script = s.script := rfl
@[simp] theorem recover_events (h : Bool) (e : Event) (s : State) : (recover h e s).events = s.events ++ [e] ++ [.recycle] := rfl
@[simp] theorem recover_result (h : Bool) (e : Event) (s : State) : (recover h e s).result = s.result := rfl

@[simp] theorem resume_cfg (s : State) : (resume s).cfg = s.cfg := rfl
@[simp] theorem resume_st (s : State) : (resume s).st = .idle := rfl
@[simp] theorem resume_master (s : State) : (resume s).master = s.master := rfl
@[simp] theorem resume_tLast (s : State) : (resume s).tLast = s.tLast := rfl
@[simp] theorem resume_tReport (s : State) : (resume s).tReport = s.tReport := rfl
@[simp] theorem resume_idx (s : State) : (resume s).idx = s.idx := rfl
@[simp] theorem resume_bufOEM (s : State) : (resume s).bufOEM = s.bufOEM := rfl
@[simp] theorem resume_bufHM (s : State) : (resume s).bufHM = s.bufHM := rfl
@[simp] theorem resume_bufHS (s : State) : (resume s).bufHS = s.bufHS := rfl
@[simp] theorem resume_txBuf (s : State) : (resume s).txBuf = s.txBuf := rfl
@[simp] theorem resume_rxFifo (s : State) : (resume s).rxFifo = s.rxFifo := rfl
@[simp] theorem resume_txStart (s : State) : (resume s).txStart = s.txStart := rfl
@[simp] theorem resume_pending (s : State) : (resume s).pending = s.pending := rfl
@[simp] theorem resume_gate (s : State) : (resume s).gate = s.gate := rfl
@[simp] theorem resume_cq (s : State) : (resume s).cq = s.cq := rfl
@[simp] theorem resume_sfi (s : State) : (resume s).sfi = s.sfi := rfl
@[simp] theorem resume_pubOEM (s : State) : (resume s).pubOEM = s.pubOEM := rfl
@[simp] theorem resume_pubHtr (s : State) : (resume s).pubHtr = s.pubHtr := rfl
@[simp] theorem resume_oemKind (s : State) : (resume s).oemKind = s.oemKind := rfl
@[simp] theorem resume_heaterResponding (s : State) : (resume s).heaterResponding = s.heaterResponding := rfl
@[simp] theorem resume_recycleCount (s : State) : (resume s).recycleCount = s.recycleCount := rfl
@[simp] theorem resume_tLog (s : State) : (resume s).tLog = s.tLog := rfl
@[simp] theorem resume_fault (s : State) : (resume s).fault = s.fault := rfl
@[simp] theorem resume_clock (s : State) : (resume s).clock = s.clock := rfl
@[simp] theorem resume_configOpen (s : State) : (resume s).configOpen = s.configOpen := rfl
@[simp] theorem resume_script (s : State) : (resume s).script = s.script := rfl
@[simp] theorem resume_events (s : State) : (resume s).events = s.events := rfl
@[simp] theorem resume_result (s : State) : (resume s).result = s.result := rfl

@[simp] theorem sfiUpdate_cfg (n : Byte) (s : State) : (sfiUpdate n s).cfg = s.cfg := rfl
@[simp] theorem sfiUpdate_st (n : Byte) (s : State) : (sfiUpdate n s).st = s.st := rfl
@[simp] theorem sfiUpdate_master (n : Byte) (s : State) : (sfiUpdate n s).master = s.master := rfl
@[simp] theorem sfiUpdate_tLast (n : Byte) (s : State) : (sfiUpdate n s).tLast = s.tLast := rfl
@[simp] theorem sfiUpdate_tReport (n : Byte) (s : State) : (sfiUpdate n s).tReport = s.tReport := rfl
@[simp] theorem sfiUpdate_idx (n : Byte) (s : State) : (sfiUpdate n s).idx = s.idx := rfl
@[simp] theorem sfiUpdate_bufOEM (n : Byte) (s : State) : (sfiUpdate n s).bufOEM = s.bufOEM := rfl
@[simp] theorem sfiUpdate_bufHM (n : Byte) (s : State) : (sfiUpdate n s).bufHM = s.bufHM := rfl
@[simp] theorem sfiUpdate_bufHS (n : Byte) (s : State) : (sfiUpdate n s).bufHS = s.bufHS := rfl
@[simp] theorem sfiUpdate_txBuf (n : Byte) (s : State) : (sfiUpdate n s).txBuf = s.txBuf := rfl
@[simp] theorem sfiUpdate_rxFifo (n : Byte) (s : State) : (sfiUpdate n s).rxFifo = s.rxFifo := rfl
@[simp] theorem sfiUpdate_txStart (n : Byte) (s : State) : (sfiUpdate n s).txStart = s.txStart := rfl
@[simp] theorem sfiUpdate_pending (n : Byte) (s : State) : (sfiUpdate n s).pending = s.pending := rfl
@[simp] theorem sfiUpdate_gate (n : Byte) (s : State) : (sfiUpdate n s).gate = s.gate := rfl
@[simp] theorem sfiUpdate_cq (n : Byte) (s : State) : (sfiUpdate n s).cq = cancelTaken n s.cq := rfl
@[simp] theorem sfiUpdate_sfi (n : Byte) (s : State) : (sfiUpdate n s).sfi = ⟨n, (inferCode n s.sfi).code, (inferCode n s.sfi).inhibited⟩ := rfl
@[simp] theorem sfiUpdate_pubOEM (n : Byte) (s : State) : (sfiUpdate n s).pubOEM = s.pubOEM := rfl
@[simp] theorem sfiUpdate_pubHtr (n : Byte) (s : State) : (sfiUpdate n s).pubHtr = s.pubHtr := rfl
@[simp] theorem sfiUpdate_oemKind (n : Byte) (s : State) : (sfiUpdate n s).oemKind = s.oemKind := rfl
@[simp] theorem sfiUpdate_heaterResponding (n : Byte) (s : State) : (sfiUpdate n s).heaterResponding = s.heaterResponding := rfl
@[simp] theorem sfiUpdate_recycleCount (n : Byte) (s : State) : (sfiUpdate n s).recycleCount = s.recycleCount := rfl
@[simp] theorem sfiUpdate_tLog (n : Byte) (s : State) : (sfiUpdate n s).tLog = s.tLog := rfl
@[simp] theorem sfiUpdate_fault (n : Byte) (s : State) : (sfiUpdate n s).fault = s.fault := rfl
@[simp] theorem sfiUpdate_clock (n : Byte) (s : State) : (sfiUpdate n s).clock = s.clock := rfl
@[simp] theorem sfiUpdate_configOpen (n : Byte) (s : State) : (sfiUpdate n s).configOpen = s.configOpen := rfl
@[simp] theorem sfiUpdate_script (n : Byte) (s : State) : (sfiUpdate n s).script = s.script := rfl
@[simp] theorem sfiUpdate_events (n : Byte) (s : State) : (sfiUpdate n s).events = s.events := rfl
@[simp] theorem sfiUpdate_result (n : Byte) (s : State) : (sfiUpdate n s).result = s.result := rfl

@[simp] theorem sfiInhibit_cfg (s : State) : (sfiInhibit s).cfg = s.cfg := rfl
@[simp] theorem sfiInhibit_st (s : State) : (sfiInhibit s).st = s.st := rfl
@[simp] theorem sfiInhibit_master (s : State) : (sfiInhibit s).master = s.master := rfl
@[simp] theorem sfiInhibit_tLast (s : State) : (sfiInhibit s).tLast = s.tLast := rfl
@[simp] theorem sfiInhibit_tReport (s : State) : (sfiInhibit s).tReport = s.tReport := rfl
@[simp] theorem sfiInhibit_idx (s : State) : (sfiInhibit s).idx = s.idx := rfl
@[simp] theorem sfiInhibit_bufOEM (s : State) : (sfiInhibit s).bufOEM = s.bufOEM := rfl
@[simp] theorem sfiInhibit_bufHM (s : State) : (sfiInhibit s).bufHM = s.bufHM := rfl
@[simp] theorem sfiInhibit_bufHS (s : State) : (sfiInhibit s).bufHS = s.bufHS := rfl
@[simp] theorem sfiInhibit_txBuf (s : State) : (sfiInhibit s).txBuf = s.txBuf := rfl
@[simp] theorem sfiInhibit_rxFifo (s : State) : (sfiInhibit s).rxFifo = s.rxFifo := rfl
@[simp] theorem sfiInhibit_txStart (s : State) : (sfiInhibit s).txStart = s.txStart := rfl
@[simp] theorem sfiInhibit_pending (s : State) : (sfiInhibit s).pending = s.pending := rfl
@[simp] theorem sfiInhibit_gate (s : State) : (sfiInhibit s).gate = s.gate := rfl
@[simp] theorem sfiInhibit_cq (s : State) : (sfiInhibit s).cq = s.cq := rfl
@[simp] theorem sfiInhibit_sfi (s : State) : (sfiInhibit s).sfi = ⟨s.sfi.prev, s.sfi.code, true⟩ := rfl
@[simp] theorem sfiInhibit_pubOEM (s : State) : (sfiInhibit s).pubOEM = s.pubOEM := rfl
@[simp] theorem sfiInhibit_pubHtr (s : State) : (sfiInhibit s).pubHtr = s.pubHtr := rfl
@[simp] theorem sfiInhibit_oemKind (s : State) : (sfiInhibit s).oemKind = s.oemKind := rfl
@[simp] theorem sfiInhibit_heaterResponding (s : State) : (sfiInhibit s).heaterResponding = s.heaterResponding := rfl
@[simp] theorem sfiInhibit_recycleCount (s : State) : (sfiInhibit s).recycleCount = s.recycleCount := rfl
@[simp] theorem sfiInhibit_tLog (s : State) : (sfiInhibit s).tLog = s.tLog := rfl
@[simp] theorem sfiInhibit_fault (s : State) : (sfiInhibit s).fault = s.fault := rfl
@[simp] theorem sfiInhibit_clock (s : State) : (sfiInhibit s).clock = s.clock := rfl
@[simp] theorem sfiInhibit_configOpen (s : State) : (sfiInhibit s).configOpen = s.configOpen := rfl
@[simp] theorem sfiInhibit_script (s : State) : (sfiInhibit s).script = s.script := rfl
@[simp] theorem sfiInhibit_events (s : State) : (sfiInhibit s).events = s.events := rfl
@[simp] theorem sfiInhibit_result (s : State) : (sfiInhibit s).result = s.result := rfl

@[simp] theorem sfiReset_cfg (s : State) : (sfiReset s).cfg = s.cfg := rfl
@[simp] theorem sfiReset_st (s : State) : (sfiReset s).st = s.st := rfl
@[simp] theorem sfiReset_master (s : State) : (sfiReset s).master = s.master := rfl
@[simp] theorem sfiReset_tLast (s : State) : (sfiReset s).tLast = s.tLast := rfl
@[simp] theorem sfiReset_tReport (s : State) : (sfiReset s).tReport = s.tReport := rfl
@[simp] theorem sfiReset_idx (s : State) : (sfiReset s).idx = s.idx := rfl
@[simp] theorem sfiReset_bufOEM (s : State) : (sfiReset s).bufOEM = s.bufOEM := rfl
@[simp] theorem sfiReset_bufHM (s : State) : (sfiReset s).bufHM = s.bufHM := rfl
@[simp] theorem sfiReset_bufHS (s : State) : (sfiReset s).bufHS = s.bufHS := rfl
@[simp] theorem sfiReset_txBuf (s : State) : (sfiReset s).txBuf = s.txBuf := rfl
@[simp] theorem sfiReset_rxFifo (s : State) : (sfiReset s).rxFifo = s.rxFifo := rfl
@[simp] theorem sfiReset_txStart (s : State) : (sfiReset s).txStart = s.txStart := rfl
@[simp] theorem sfiReset_pending (s : State) : (sfiReset s).pending = s.pending := rfl
@[simp] theorem sfiReset_gate (s : State) : (sfiReset s).gate = s.gate := rfl
@[simp] theorem sfiReset_cq (s : State) : (sfiReset s).cq = s.cq := rfl
@[simp] theorem sfiReset_sfi (s : State) : (sfiReset s).sfi = ⟨s.sfi.prev, .none, false⟩ := rfl
@[simp] theorem sfiReset_pubOEM (s : State) : (sfiReset s).pubOEM = s.pubOEM := rfl
@[simp] theorem sfiReset_pubHtr (s : State) : (sfiReset s).pubHtr = s.pubHtr := rfl
@[simp] theorem sfiReset_oemKind (s : State) : (sfiReset s).oemKind = s.oemKind := rfl
@[simp] theorem sfiReset_heaterResponding (s : State) : (sfiReset s).heaterResponding = s.heaterResponding := rfl
@[simp] theorem sfiReset_recycleCount (s : State) : (sfiReset s).recycleCount = s.recycleCount := rfl
@[simp] theorem sfiReset_tLog (s : State) : (sfiReset s).tLog = s.tLog := rfl
@[simp] theorem sfiReset_fault (s : State) : (sfiReset s).fault = s.fault := rfl
@[simp] theorem sfiReset_clock (s : State) : (sfiReset s).clock = s.clock := rfl
@[simp] theorem sfiReset_configOpen (s : State) : (sfiReset s).configOpen = s.configOpen := rfl
@[simp] theorem sfiReset_script (s : State) : (sfiReset s).script = s.script := rfl
@[simp] theorem sfiReset_events (s : State) : (sfiReset s).events = s.events := rfl
@[simp] theorem sfiReset_result (s : State) : (sfiReset s).result = s.result := rfl

@[simp] theorem releaseGate_cfg (s : State) : (releaseGate s).cfg = s.cfg := rfl
@[simp] theorem releaseGate_st (s : State) : (releaseGate s).st = s.st := rfl
@[simp] theorem releaseGate_master (s : State) : (releaseGate s).master = s.master := rfl
@[simp] theorem releaseGate_tLast (s : State) : (releaseGate s).tLast = s.tLast := rfl
@[simp] theorem releaseGate_tReport (s : State) : (releaseGate s).tReport = s.tReport := rfl
@[simp] theorem releaseGate_idx (s : State) : (releaseGate s).idx = s.idx := rfl
@[simp] theorem releaseGate_bufOEM (s : State) : (releaseGate s).bufOEM = s.bufOEM := rfl
@[simp] theorem releaseGate_bufHM (s : State) : (releaseGate s).bufHM = s.bufHM := rfl
@[simp] theorem releaseGate_bufHS (s : State) : (releaseGate s).bufHS = s.bufHS := rfl
@[simp] theorem releaseGate_txBuf (s : State) : (releaseGate s).txBuf = s.txBuf := rfl
@[simp] theorem releaseGate_rxFifo (s : State) : (releaseGate s).rxFifo = s.rxFifo := rfl
@[simp] theorem releaseGate_txStart (s : State) : (releaseGate s).txStart = none := rfl
@[simp] theorem releaseGate_pending (s : State) : (releaseGate s).pending = s.pending := rfl
@[simp] theorem releaseGate_gate (s : State) : (releaseGate s).gate = false := rfl
@[simp] theorem releaseGate_cq (s : State) : (releaseGate s).cq = s.cq := rfl
@[simp] theorem releaseGate_sfi (s : State) : (releaseGate s).sfi = s.sfi := rfl
@[simp] theorem releaseGate_pubOEM (s : State) : (releaseGate s).pubOEM = s.pubOEM := rfl
@[simp] theorem releaseGate_pubHtr (s : State) : (releaseGate s).pubHtr = s.pubHtr := rfl
@[simp] theorem releaseGate_oemKind (s : State) : (releaseGate s).oemKind = s.oemKind := rfl
@[simp] theorem releaseGate_heaterResponding (s : State) : (releaseGate s).heaterResponding = s.heaterResponding := rfl
@[simp] theorem releaseGate_recycleCount (s : State) : (releaseGate s).recycleCount = s.recycleCount := rfl
@[simp] theorem releaseGate_tLog (s : State) : (releaseGate s).tLog = s.tLog := rfl
@[simp] theorem releaseGate_fault (s : State) : (releaseGate s).fault = s.fault := rfl
@[simp] theorem releaseGate_clock (s : State) : (releaseGate s).clock = s.clock := rfl
@[simp] theorem releaseGate_configOpen (s : State) : (releaseGate s).configOpen = s.configOpen := rfl
@[simp] theorem releaseGate_script (s : State) : (releaseGate s).script = s.script := rfl
@[simp] theorem releaseGate_events (s : State) : (releaseGate s).events = s.events := rfl
@[simp] theorem releaseGate_result (s : State) : (releaseGate s).result = s.result := rfl

@[simp] theorem resetTo_cfg (t0 : Nat) (s : State) : (resetTo t0 s).cfg = s.cfg := rfl
@[simp] theorem resetTo_st (t0 : Nat) (s : State) : (resetTo t0 s).st = .idle := rfl
@[simp] theorem resetTo_master (t0 : Nat) (s : State) : (resetTo t0 s).master = .none := rfl
@[simp] theorem resetTo_tLast (t0 : Nat) (s : State) : (resetTo t0 s).tLast = t0 := rfl
@[simp] theorem resetTo_tReport (t0 : Nat) (s : State) : (resetTo t0 s).tReport = t0 := rfl
@[simp] theorem resetTo_idx (t0 : Nat) (s : State) : (resetTo t0 s).idx = 0 := rfl
@[simp] theorem resetTo_bufOEM (t0 : Nat) (s : State) : (resetTo t0 s).bufOEM = Raw.zero := rfl
@[simp] theorem resetTo_bufHM (t0 : Nat) (s : State) : (resetTo t0 s).bufHM = Raw.zero := rfl
@[simp] theorem resetTo_bufHS (t0 : Nat) (s : State) : (resetTo t0 s).bufHS = Raw.zero := rfl
@[simp] theorem resetTo_txBuf (t0 : Nat) (s : State) : (resetTo t0 s).txBuf = Raw.zero := rfl
@[simp] theorem resetTo_rxFifo (t0 : Nat) (s : State) : (resetTo t0 s).rxFifo = [] := rfl
@[simp] theorem resetTo_txStart (t0 : Nat) (s : State) : (resetTo t0 s).txStart = none := rfl
@[simp] theorem resetTo_pending (t0 : Nat) (s : State) : (resetTo t0 s).pending = false := rfl
@[simp] theorem resetTo_gate (t0 : Nat) (s : State) : (resetTo t0 s).gate = false := rfl
@[simp] theorem resetTo_cq (t0 : Nat) (s : State) : (resetTo t0 s).cq = ⟨false, false, none⟩ := rfl
@[simp] theorem resetTo_sfi (t0 : Nat) (s : State) : (resetTo t0 s).sfi = ⟨0#8, .none, false⟩ := rfl
@[simp] theorem resetTo_pubOEM (t0 : Nat) (s : State) : (resetTo t0 s).pubOEM = none := rfl
@[simp] theorem resetTo_pubHtr (t0 : Nat) (s : State) : (resetTo t0 s).pubHtr = none := rfl
@[simp] theorem resetTo_oemKind (t0 : Nat) (s : State) : (resetTo t0 s).oemKind = .none := rfl
@[simp] theorem resetTo_heaterResponding (t0 : Nat) (s : State) : (resetTo t0 s).heaterResponding = false := rfl
@[simp] theorem resetTo_recycleCount (t0 : Nat) (s : State) : (resetTo t0 s).recycleCount = 0#32 := rfl
@[simp] theorem resetTo_tLog (t0 : Nat) (s : State) : (resetTo t0 s).tLog = none := rfl
@[simp] theorem resetTo_fault (t0 : Nat) (s : State) : (resetTo t0 s).fault = none := rfl
@[simp] theorem resetTo_clock (t0 : Nat) (s : State) : (resetTo t0 s).clock = t0 := rfl
@[simp] theorem resetTo_configOpen (t0 : Nat) (s : State) : (resetTo t0 s).configOpen = false := rfl
@[simp] theorem resetTo_script (t0 : Nat) (s : State) : (resetTo t0 s).script = s.script := rfl
@[simp] theorem resetTo_events (t0 : Nat) (s : State) : (resetTo t0 s).events = [] := rfl
@[simp] theorem resetTo_result (t0 : Nat) (s : State) : (resetTo t0 s).result = .none := rfl

@[simp] theorem poll_cfg (now : Nat) (s : State) : (poll now s).cfg = s.cfg := by unfold poll; split <;> rfl
@[simp] theorem poll_st (now : Nat) (s : State) : (poll now s).st = s.st := by unfold poll; split <;> rfl
@[simp] theorem poll_master (now : Nat) (s : State) : (poll now s).master = s.master := by unfold poll; split <;> rfl
@[simp] theorem poll_tReport (now : Nat) (s : State) : (poll now s).tReport = s.tReport := by unfold poll; split <;> rfl
@[simp] theorem poll_idx (now : Nat) (s : State) : (poll now s).idx = s.idx := by unfold poll; split <;> rfl
@[simp] theorem poll_bufOEM (now : Nat) (s : State) : (poll now s).bufOEM = s.bufOEM := by unfold poll; split <;> rfl
@[simp] theorem poll_bufHM (now : Nat) (s : State) : (poll now s).bufHM = s.bufHM := by unfold poll; split <;> rfl
@[simp] theorem poll_bufHS (now : Nat) (s : State) : (poll now s).bufHS = s.bufHS := by unfold poll; split <;> rfl
@[simp] theorem poll_txBuf (now : Nat) (s : State) : (poll now s).txBuf = s.txBuf := by unfold poll; split <;> rfl
@[simp] theorem poll_txStart (now : Nat) (s : State) : (poll now s).txStart = s.txStart := by unfold poll; split <;> rfl
@[simp] theorem poll_pending (now : Nat) (s : State) : (poll now s).pending = s.pending := by unfold poll; split <;> rfl
@[simp] theorem poll_gate (now : Nat) (s : State) : (poll now s).gate = s.gate := by unfold poll; split <;> rfl
@[simp] theorem poll_cq (now : Nat) (s : State) : (poll now s).cq = s.cq := by unfold poll; split <;> rfl
@[simp] theorem poll_sfi (now : Nat) (s : State) : (poll now s).sfi = s.sfi := by unfold poll; split <;> rfl
@[simp] theorem poll_pubOEM (now : Nat) (s : State) : (poll now s).pubOEM = s.pubOEM := by unfold poll; split <;> rfl
@[simp] theorem poll_pubHtr (now : Nat) (s : State) : (poll now s).pubHtr = s.pubHtr := by unfold poll; split <;> rfl
@[simp] theorem poll_oemKind (now : Nat) (s : State) : (poll now s).oemKind = s.oemKind := by unfold poll; split <;> rfl
@[simp] theorem poll_heaterResponding (now : Nat) (s : State) : (poll now s).heaterResponding = s.heaterResponding := by unfold poll; split <;> rfl
@[simp] theorem poll_recycleCount (now : Nat) (s : State) : (poll now s).recycleCount = s.recycleCount := by unfold poll; split <;> rfl
@[simp] theorem poll_tLog (now : Nat) (s : State) : (poll now s).tLog = s.tLog := by unfold poll; split <;> rfl
@[simp] theorem poll_fault (now : Nat) (s : State) : (poll now s).fault = s.fault := by unfold poll; split <;> rfl
@[simp] theorem poll_clock (now : Nat) (s : State) : (poll now s).clock = s.clock := by unfold poll; split <;> rfl
@[simp] theorem poll_configOpen (now : Nat) (s : State) : (poll now s).configOpen = s.configOpen := by unfold poll; split <;> rfl
@[simp] theorem poll_script (now : Nat) (s : State) : (poll now s).script = s.script := by unfold poll; split <;> rfl
@[simp] theorem poll_events (now : Nat) (s : State) : (poll now s).events = s.events := by unfold poll; split <;> rfl
@[simp] theorem poll_result (now : Nat) (s : State) : (poll now s).result = s.result := by unfold poll; split <;> rfl

@[simp] theorem rxStore_cfg (w : RxBuf) (i : Nat) (b : Byte) (s : State) : (rxStore w i b s).cfg = s.cfg := by cases w <;> rfl
@[simp] theorem rxStore_st (w : RxBuf) (i : Nat) (b : Byte) (s : State) : (rxStore w i b s).st = s.st := by cases w <;> rfl
@[simp] theorem rxStore_master (w : RxBuf) (i : Nat) (b : Byte) (s : State) : (rxStore w i b s).master = s.master := by cases w <;> rfl
@[simp] theorem rxStore_tLast (w : RxBuf) (i : Nat) (b : Byte) (s : State) : (rxStore w i b s).tLast = s.tLast := by cases w <;> rfl
@[simp] theorem rxStore_tReport (w : RxBuf) (i : Nat) (b : Byte) (s : State) : (rxStore w i b s).tReport = s.tReport := by cases w <;> rfl
@[simp] theorem rxStore_idx (w : RxBuf) (i : Nat) (b : Byte) (s : State) : (rxStore w i b s).idx = s.idx := by cases w <;> rfl
@[simp] theorem rxStore_txBuf (w : RxBuf) (i : Nat) (b : Byte) (s : State) : (rxStore w i b s).txBuf = s.txBuf := by cases w <;> rfl
@[simp] theorem rxStore_rxFifo (w : RxBuf) (i : Nat) (b : Byte) (s : State) : (rxStore w i b s).rxFifo = s.rxFifo := by cases w <;> rfl
@[simp] theorem rxStore_txStart (w : RxBuf) (i : Nat) (b : Byte) (s : State) : (rxStore w i b s).txStart = s.txStart := by cases w <;> rfl
@[simp] theorem rxStore_pending (w : RxBuf) (i : Nat) (b : Byte) (s : State) : (rxStore w i b s).pending = s.pending := by cases w <;> rfl
@[simp] theorem rxStore_gate (w : RxBuf) (i : Nat) (b : Byte) (s : State) : (rxStore w i b s).gate = s.gate := by cases w <;> rfl
@[simp] theorem rxStore_cq (w : RxBuf) (i : Nat) (b : Byte) (s : State) : (rxStore w i b s).cq = s.cq := by cases w <;> rfl
@[simp] theorem rxStore_sfi (w : RxBuf) (i : Nat) (b : Byte) (s : State) : (rxStore w i b s).sfi = s.sfi := by cases w <;> rfl
@[simp] theorem rxStore_pubOEM (w : RxBuf) (i : Nat) (b : Byte) (s : State) : (rxStore w i b s).pubOEM = s.pubOEM := by cases w <;> rfl
@[simp] theorem rxStore_pubHtr (w : RxBuf) (i : Nat) (b : Byte) (s : State) : (rxStore w i b s).pubHtr = s.pubHtr := by cases w <;> rfl
@[simp] theorem rxStore_oemKind (w : RxBuf) (i : Nat) (b : Byte) (s : State) : (rxStore w i b s).oemKind = s.oemKind := by cases w <;> rfl
@[simp] theorem rxStore_heaterResponding (w : RxBuf) (i : Nat) (b : Byte) (s : State) : (rxStore w i b s).heaterResponding = s.heaterResponding := by cases w <;> rfl
@[simp] theorem rxStore_recycleCount (w : RxBuf) (i : Nat) (b : Byte) (s : State) : (rxStore w i b s).recycleCount = s.recycleCount := by cases w <;> rfl
@[simp] theorem rxStore_tLog (w : RxBuf) (i : Nat) (b : Byte) (s : State) : (rxStore w i b s).tLog = s.tLog := by cases w <;> rfl
@[simp] theorem rxStore_fault (w : RxBuf) (i : Nat) (b : Byte) (s : State) : (rxStore w i b s).fault = s.fault := by cases w <;> rfl
@[simp] theorem rxStore_clock (w : RxBuf) (i : Nat) (b : Byte) (s : State) : (rxStore w i b s).clock = s.clock := by cases w <;> rfl
@[simp] theorem rxStore_configOpen (w : RxBuf) (i : Nat) (b : Byte) (s : State) : (rxStore w i b s).configOpen = s.configOpen := by cases w <;> rfl
@[simp] theorem rxStore_script (w : RxBuf) (i : Nat) (b : Byte) (s : State) : (rxStore w i b s).script = s.script := by cases w <;> rfl
@[simp] theorem rxStore_events (w : RxBuf) (i : Nat) (b : Byte) (s : State) : (rxStore w i b s).events = s.events := by cases w <;> rfl
@[simp] theorem rxStore_result (w : RxBuf) (i : Nat) (b : Byte) (s : State) : (rxStore w i b s).result = s.result := by cases w <;> rfl

@[simp] theorem checkVolts_cfg (x : Raw) (inp : Inp) (s : State) : (checkVolts x inp s).cfg = s.cfg := by unfold checkVolts; split <;> rfl
@[simp] theorem checkVolts_st (x : Raw) (inp : Inp) (s : State) : (checkVolts x inp s).st = s.st := by unfold checkVolts; split <;> rfl
@[simp] theorem checkVolts_master (x : Raw) (inp : Inp) (s : State) : (checkVolts x inp s).master = s.master := by unfold checkVolts; split <;> rfl
@[simp] theorem checkVolts_tLast (x : Raw) (inp : Inp) (s : State) : (checkVolts x inp s).tLast = s.tLast := by unfold checkVolts; split <;> rfl
@[simp] theorem checkVolts_tReport (x : Raw) (inp : Inp) (s : State) : (checkVolts x inp s).tReport = s.tReport := by unfold checkVolts; split <;> rfl
@[simp] theorem checkVolts_idx (x : Raw) (inp : Inp) (s : State) : (checkVolts x inp s).idx = s.idx := by unfold checkVolts; split <;> rfl
@[simp] theorem checkVolts_bufOEM (x : Raw) (inp : Inp) (s : State) : (checkVolts x inp s).bufOEM = s.bufOEM := by unfold checkVolts; split <;> rfl
@[simp] theorem checkVolts_bufHM (x : Raw) (inp : Inp) (s : State) : (checkVolts x inp s).bufHM = s.bufHM := by unfold checkVolts; split <;> rfl
@[simp] theorem checkVolts_bufHS (x : Raw) (inp : Inp) (s : State) : (checkVolts x inp s).bufHS = s.bufHS := by unfold checkVolts; split <;> rfl
@[simp] theorem checkVolts_txBuf (x : Raw) (inp : Inp) (s : State) : (checkVolts x inp s).txBuf = s.txBuf := by unfold checkVolts; split <;> rfl
@[simp] theorem checkVolts_rxFifo (x : Raw) (inp : Inp) (s : State) : (checkVolts x inp s).rxFifo = s.rxFifo := by unfold checkVolts; split <;> rfl
@[simp] theorem checkVolts_txStart (x : Raw) (inp : Inp) (s : State) : (checkVolts x inp s).txStart = s.txStart := by unfold checkVolts; split <;> rfl
@[simp] theorem checkVolts_pending (x : Raw) (inp : Inp) (s : State) : (checkVolts x inp s).pending = s.pending := by unfold checkVolts; split <;> rfl
@[simp] theorem checkVolts_gate (x : Raw) (inp : Inp) (s : State) : (checkVolts x inp s).gate = s.gate := by unfold checkVolts; split <;> rfl
@[simp] theorem checkVolts_pubOEM (x : Raw) (inp : Inp) (s : State) : (checkVolts x inp s).pubOEM = s.pubOEM := by unfold checkVolts; split <;> rfl
@[simp] theorem checkVolts_pubHtr (x : Raw) (inp : Inp) (s : State) : (checkVolts x inp s).pubHtr = s.pubHtr := by unfold checkVolts; split <;> rfl
@[simp] theorem checkVolts_oemKind (x : Raw) (inp : Inp) (s : State) : (checkVolts x inp s).oemKind = s.oemKind := by unfold checkVolts; split <;> rfl
@[simp] theorem checkVolts_heaterResponding (x : Raw) (inp : Inp) (s : State) : (checkVolts x inp s).heaterResponding = s.heaterResponding := by unfold checkVolts; split <;> rfl
@[simp] theorem checkVolts_recycleCount (x : Raw) (inp : Inp) (s : State) : (checkVolts x inp s).recycleCount = s.recycleCount := by unfold checkVolts; split <;> rfl
@[simp] theorem checkVolts_tLog (x : Raw) (inp : Inp) (s : State) : (checkVolts x inp s).tLog = s.tLog := by unfold checkVolts; split <;> rfl
@[simp] theorem checkVolts_fault (x : Raw) (inp : Inp) (s : State) : (checkVolts x inp s).fault = s.fault := by unfold checkVolts; split <;> rfl
@[simp] theorem checkVolts_clock (x : Raw) (inp : Inp) (s : State) : (checkVolts x inp s).clock = s.clock := by unfold checkVolts; split <;> rfl
@[simp] theorem checkVolts_configOpen (x : Raw) (inp : Inp) (s : State) : (checkVolts x inp s).configOpen = s.configOpen := by unfold checkVolts; split <;> rfl
@[simp] theorem checkVolts_script (x : Raw) (inp : Inp) (s : State) : (checkVolts x inp s).script = s.script := by unfold checkVolts; split <;> rfl
@[simp] theorem checkVolts_events (x : Raw) (inp : Inp) (s : State) : (checkVolts x inp s).events = s.events := by unfold checkVolts; split <;> rfl
@[simp] theorem checkVolts_result (x : Raw) (inp : Inp) (s : State) : (checkVolts x inp s).result = s.result := by unfold checkVolts; split <;> rfl

@[simp] theorem txStart_cfg (now : Nat) (s : State) : (txStart now s).cfg = s.cfg := by unfold txStart; split <;> rfl
@[simp] theorem txStart_st (now : Nat) (s : State) : (txStart now s).st = s.st := by unfold txStart; split <;> rfl
@[simp] theorem txStart_master (now : Nat) (s : State) : (txStart now s).master = s.master := by unfold txStart; split <;> rfl
@[simp] theorem txStart_tLast (now : Nat) (s : State) : (txStart now s).tLast = s.tLast := by unfold txStart; split <;> rfl
@[simp] theorem txStart_tReport (now : Nat) (s : State) : (txStart now s).tReport = s.tReport := by unfold txStart; split <;> rfl
@[simp] theorem txStart_idx (now : Nat) (s : State) : (txStart now s).idx = s.idx := by unfold txStart; split <;> rfl
@[simp] theorem txStart_bufOEM (now : Nat) (s : State) : (txStart now s).bufOEM = s.bufOEM := by unfold txStart; split <;> rfl
@[simp] theorem txStart_bufHM (now : Nat) (s : State) : (txStart now s).bufHM = s.bufHM := by unfold txStart; split <;> rfl
@[simp] theorem txStart_bufHS (now : Nat) (s : State) : (txStart now s).bufHS = s.bufHS := by unfold txStart; split <;> rfl
@[simp] theorem txStart_txBuf (now : Nat) (s : State) : (txStart now s).txBuf = s.txBuf := by unfold txStart; split <;> rfl
@[simp] theorem txStart_rxFifo (now : Nat) (s : State) : (txStart now s).rxFifo = s.rxFifo := by unfold txStart; split <;> rfl
@[simp] theorem txStart_gate (now : Nat) (s : State) : (txStart now s).gate = s.gate := by unfold txStart; split <;> rfl
@[simp] theorem txStart_cq (now : Nat) (s : State) : (txStart now s).cq = s.cq := by unfold txStart; split <;> rfl
@[simp] theorem txStart_sfi (now : Nat) (s : State) : (txStart now s).sfi = s.sfi := by unfold txStart; split <;> rfl
@[simp] theorem txStart_pubOEM (now : Nat) (s : State) : (txStart now s).pubOEM = s.pubOEM := by unfold txStart; split <;> rfl
@[simp] theorem txStart_pubHtr (now : Nat) (s : State) : (txStart now s).pubHtr = s.pubHtr := by unfold txStart; split <;> rfl
@[simp] theorem txStart_oemKind (now : Nat) (s : State) : (txStart now s).oemKind = s.oemKind := by unfold txStart; split <;> rfl
@[simp] theorem txStart_heaterResponding (now : Nat) (s : State) : (txStart now s).heaterResponding = s.heaterResponding := by unfold txStart; split <;> rfl
@[simp] theorem txStart_recycleCount (now : Nat) (s : State) : (txStart now s).recycleCount = s.recycleCount := by unfold txStart; split <;> rfl
@[simp] theorem txStart_tLog (now : Nat) (s : State) : (txStart now s).tLog = s.tLog := by unfold txStart; split <;> rfl
@[simp] theorem txStart_clock (now : Nat) (s : State) : (txStart now s).clock = s.clock := by unfold txStart; split <;> rfl
@[simp] theorem txStart_configOpen (now : Nat) (s : State) : (txStart now s).configOpen = s.configOpen := by unfold txStart; split <;> rfl
@[simp] theorem txStart_script (now : Nat) (s : State) : (txStart now s).script = s.script := by unfold txStart; split <;> rfl
@[simp] theorem txStart_events (now : Nat) (s : State) : (txStart now s).events = s.events := by unfold txStart; split <;> rfl
@[simp] theorem txStart_result (now : Nat) (s : State) : (txStart now s).result = s.result := by unfold txStart; split <;> rfl

@[simp] theorem assertGate_cfg (e : Nat) (s : State) : (assertGate e s).cfg = s.cfg := by unfold assertGate; split <;> rfl
@[simp] theorem assertGate_st (e : Nat) (s : State) : (assertGate e s).st = s.st := by unfold assertGate; split <;> rfl
@[simp] theorem assertGate_master (e : Nat) (s : State) : (assertGate e s).master = s.master := by unfold assertGate; split <;> rfl
@[simp] theorem assertGate_tLast (e : Nat) (s : State) : (assertGate e s).tLast = s.tLast := by unfold assertGate; split <;> rfl
@[simp] theorem assertGate_tReport (e : Nat) (s : State) : (assertGate e s).tReport = s.tReport := by unfold assertGate; split <;> rfl
@[simp] theorem assertGate_idx (e : Nat) (s : State) : (assertGate e s).idx = s.idx := by unfold assertGate; split <;> rfl
@[simp] theorem assertGate_bufOEM (e : Nat) (s : State) : (assertGate e s).bufOEM = s.bufOEM := by unfold assertGate; split <;> rfl
@[simp] theorem assertGate_bufHM (e : Nat) (s : State) : (assertGate e s).bufHM = s.bufHM := by unfold assertGate; split <;> rfl
@[simp] theorem assertGate_bufHS (e : Nat) (s : State) : (assertGate e s).bufHS = s.bufHS := by unfold assertGate; split <;> rfl
@[simp] theorem assertGate_txBuf (e : Nat) (s : State) : (assertGate e s).txBuf = s.txBuf := by unfold assertGate; split <;> rfl
@[simp] theorem assertGate_rxFifo (e : Nat) (s : State) : (assertGate e s).rxFifo = s.rxFifo := by unfold assertGate; split <;> rfl
@[simp] theorem assertGate_txStart (e : Nat) (s : State) : (assertGate e s).txStart = s.txStart := by unfold assertGate; split <;> rfl
@[simp] theorem assertGate_pending (e : Nat) (s : State) : (assertGate e s).pending = s.pending := by unfold assertGate; split <;> rfl
@[simp] theorem assertGate_cq (e : Nat) (s : State) : (assertGate e s).cq = s.cq := by unfold assertGate; split <;> rfl
@[simp] theorem assertGate_sfi (e : Nat) (s : State) : (assertGate e s).sfi = s.sfi := by unfold assertGate; split <;> rfl
@[simp] theorem assertGate_pubOEM (e : Nat) (s : State) : (assertGate e s).pubOEM = s.pubOEM := by unfold assertGate; split <;> rfl
@[simp] theorem assertGate_pubHtr (e : Nat) (s : State) : (assertGate e s).pubHtr = s.pubHtr := by unfold assertGate; split <;> rfl
@[simp] theorem assertGate_oemKind (e : Nat) (s : State) : (assertGate e s).oemKind = s.oemKind := by unfold assertGate; split <;> rfl
@[simp] theorem assertGate_heaterResponding (e : Nat) (s : State) : (assertGate e s).heaterResponding = s.heaterResponding := by unfold assertGate; split <;> rfl
@[simp] theorem assertGate_recycleCount (e : Nat) (s : State) : (assertGate e s).recycleCount = s.recycleCount := by unfold assertGate; split <;> rfl
@[simp] theorem assertGate_tLog (e : Nat) (s : State) : (assertGate e s).tLog = s.tLog := by unfold assertGate; split <;> rfl
@[simp] theorem assertGate_fault (e : Nat) (s : State) : (assertGate e s).fault = s.fault := by unfold assertGate; split <;> rfl
@[simp] theorem assertGate_clock (e : Nat) (s : State) : (assertGate e s).clock = s.clock := by unfold assertGate; split <;> rfl
@[simp] theorem assertGate_configOpen (e : Nat) (s : State) : (assertGate e s).configOpen = s.configOpen := by unfold assertGate; split <;> rfl
@[simp] theorem assertGate_script (e : Nat) (s : State) : (assertGate e s).script = s.script := by unfold assertGate; split <;> rfl
@[simp] theorem assertGate_events (e : Nat) (s : State) : (assertGate e s).events = s.events := by unfold assertGate; split <;> rfl
@[simp] theorem assertGate_result (e : Nat) (s : State) : (assertGate e s).result = s.result := by unfold assertGate; split <;> rfl

@[simp] theorem writePending_cfg (e : Nat) (s : State) : (writePending e s).cfg = s.cfg := by unfold writePending; split <;> rfl
@[simp] theorem writePending_st (e : Nat) (s : State) : (writePending e s).st = s.st := by unfold writePending; split <;> rfl
@[simp] theorem writePending_master (e : Nat) (s : State) : (writePending e s).master = s.master := by unfold writePending; split <;> rfl
@[simp] theorem writePending_tLast (e : Nat) (s : State) : (writePending e s).tLast = s.tLast := by unfold writePending; split <;> rfl
@[simp] theorem writePending_tReport (e : Nat) (s : State) : (writePending e s).tReport = s.tReport := by unfold writePending; split <;> rfl
@[simp] theorem writePending_idx (e : Nat) (s : State) : (writePending e s).idx = s.idx := by unfold writePending; split <;> rfl
@[simp] theorem writePending_bufOEM (e : Nat) (s : State) : (writePending e s).bufOEM = s.bufOEM := by unfold writePending; split <;> rfl
@[simp] theorem writePending_bufHM (e : Nat) (s : State) : (writePending e s).bufHM = s.bufHM := by unfold writePending; split <;> rfl
@[simp] theorem writePending_bufHS (e : Nat) (s : State) : (writePending e s).bufHS = s.bufHS := by unfold writePending; split <;> rfl
@[simp] theorem writePending_txBuf (e : Nat) (s : State) : (writePending e s).txBuf = s.txBuf := by unfold writePending; split <;> rfl
@[simp] theorem writePending_rxFifo (e : Nat) (s : State) : (writePending e s).rxFifo = s.rxFifo := by unfold writePending; split <;> rfl
@[simp] theorem writePending_txStart (e : Nat) (s : State) : (writePending e s).txStart = s.txStart := by unfold writePending; split <;> rfl
@[simp] theorem writePending_gate (e : Nat) (s : State) : (writePending e s).gate = s.gate := by unfold writePending; split <;> rfl
@[simp] theorem writePending_cq (e : Nat) (s : State) : (writePending e s).cq = s.cq := by unfold writePending; split <;> rfl
@[simp] theorem writePending_sfi (e : Nat) (s : State) : (writePending e s).sfi = s.sfi := by unfold writePending; split <;> rfl
@[simp] theorem writePending_pubOEM (e : Nat) (s : State) : (writePending e s).pubOEM = s.pubOEM := by unfold writePending; split <;> rfl
@[simp] theorem writePending_pubHtr (e : Nat) (s : State) : (writePending e s).pubHtr = s.pubHtr := by unfold writePending; split <;> rfl
@[simp] theorem writePending_oemKind (e : Nat) (s : State) : (writePending e s).oemKind = s.oemKind := by unfold writePending; split <;> rfl
@[simp] theorem writePending_heaterResponding (e : Nat) (s : State) : (writePending e s).heaterResponding = s.heaterResponding := by unfold writePending; split <;> rfl
@[simp] theorem writePending_recycleCount (e : Nat) (s : State) : (writePending e s).recycleCount = s.recycleCount := by unfold writePending; split <;> rfl
@[simp] theorem writePending_tLog (e : Nat) (s : State) : (writePending e s).tLog = s.tLog := by unfold writePending; split <;> rfl
@[simp] theorem writePending_fault (e : Nat) (s : State) : (writePending e s).fault = s.fault := by unfold writePending; split <;> rfl
@[simp] theorem writePending_clock (e : Nat) (s : State) : (writePending e s).clock = s.clock := by unfold writePending; split <;> rfl
@[simp] theorem writePending_configOpen (e : Nat) (s : State) : (writePending e s).configOpen = s.configOpen := by unfold writePending; split <;> rfl
@[simp] theorem writePending_script (e : Nat) (s : State) : (writePending e s).script = s.script := by unfold writePending; split <;> rfl
@[simp] theorem writePending_result (e : Nat) (s : State) : (writePending e s).result = s.result := by unfold writePending; split <;> rfl

@[simp] theorem txCheck_cfg (now : Nat) (s : State) : (txCheck now s).cfg = s.cfg := by unfold txCheck; split <;> (try split) <;> simp
@[simp] theorem txCheck_st (now : Nat) (s : State) : (txCheck now s).st = s.st := by unfold txCheck; split <;> (try split) <;> simp
@[simp] theorem txCheck_master (now : Nat) (s : State) : (txCheck now s).master = s.master := by unfold txCheck; split <;> (try split) <;> simp
@[simp] theorem txCheck_tLast (now : Nat) (s : State) : (txCheck now s).tLast = s.tLast := by unfold txCheck; split <;> (try split) <;> simp
@[simp] theorem txCheck_tReport (now : Nat) (s : State) : (txCheck now s).tReport = s.tReport := by unfold txCheck; split <;> (try split) <;> simp
@[simp] theorem txCheck_idx (now : Nat) (s : State) : (txCheck now s).idx = s.idx := by unfold txCheck; split <;> (try split) <;> simp
@[simp] theorem txCheck_bufOEM (now : Nat) (s : State) : (txCheck now s).bufOEM = s.bufOEM := by unfold txCheck; split <;> (try split) <;> simp
@[simp] theorem txCheck_bufHM (now : Nat) (s : State) : (txCheck now s).bufHM = s.bufHM := by unfold txCheck; split <;> (try split) <;> simp
@[simp] theorem txCheck_bufHS (now : Nat) (s : State) : (txCheck now s).bufHS = s.bufHS := by unfold txCheck; split <;> (try split) <;> simp
@[simp] theorem txCheck_txBuf (now : Nat) (s : State) : (txCheck now s).txBuf = s.txBuf := by unfold txCheck; split <;> (try split) <;> simp
@[simp] theorem txCheck_rxFifo (now : Nat) (s : State) : (txCheck now s).rxFifo = s.rxFifo := by unfold txCheck; split <;> (try split) <;> simp
@[simp] theorem txCheck_cq (now : Nat) (s : State) : (txCheck now s).cq = s.cq := by unfold txCheck; split <;> (try split) <;> simp
@[simp] theorem txCheck_sfi (now : Nat) (s : State) : (txCheck now s).sfi = s.sfi := by unfold txCheck; split <;> (try split) <;> simp
@[simp] theorem txCheck_pubOEM (now : Nat) (s : State) : (txCheck now s).pubOEM = s.pubOEM := by unfold txCheck; split <;> (try split) <;> simp
@[simp] theorem txCheck_pubHtr (now : Nat) (s : State) : (txCheck now s).pubHtr = s.pubHtr := by unfold txCheck; split <;> (try split) <;> simp
@[simp] theorem txCheck_oemKind (now : Nat) (s : State) : (txCheck now s).oemKind = s.oemKind := by unfold txCheck; split <;> (try split) <;> simp
@[simp] theorem txCheck_heaterResponding (now : Nat) (s : State) : (txCheck now s).heaterResponding = s.heaterResponding := by unfold txCheck; split <;> (try split) <;> simp
@[simp] theorem txCheck_recycleCount (now : Nat) (s : State) : (txCheck now s).recycleCount = s.recycleCount := by unfold txCheck; split <;> (try split) <;> simp
@[simp] theorem txCheck_tLog (now : Nat) (s : State) : (txCheck now s).tLog = s.tLog := by unfold txCheck; split <;> (try split) <;> simp
@[simp] theorem txCheck_clock (now : Nat) (s : State) : (txCheck now s).clock = s.clock := by unfold txCheck; split <;> (try split) <;> simp
@[simp] theorem txCheck_configOpen (now : Nat) (s : State) : (txCheck now s).configOpen = s.configOpen := by unfold txCheck; split <;> (try split) <;> simp
@[simp] theorem txCheck_script (now : Nat) (s : State) : (txCheck now s).script = s.script := by unfold txCheck; split <;> (try split) <;> simp
@[simp] theorem txCheck_result (now : Nat) (s : State) : (txCheck now s).result = s.result := by unfold txCheck; split <;> (try split) <;> simp

@[simp] theorem logTimeout_cfg (now : Nat) (s : State) : (logTimeout now s).cfg = s.cfg := by unfold logTimeout; split <;> (try split) <;> rfl
@[simp] theorem logTimeout_st (now : Nat) (s : State) : (logTimeout now s).st = s.st := by unfold logTimeout; split <;> (try split) <;> rfl
@[simp] theorem logTimeout_master (now : Nat) (s : State) : (logTimeout now s).master = s.master := by unfold logTimeout; split <;> (try split) <;> rfl
@[simp] theorem logTimeout_tLast (now : Nat) (s : State) : (logTimeout now s).tLast = s.tLast := by unfold logTimeout; split <;> (try split) <;> rfl
@[simp] theorem logTimeout_tReport (now : Nat) (s : State) : (logTimeout now s).tReport = s.tReport := by unfold logTimeout; split <;> (try split) <;> rfl
@[simp] theorem logTimeout_idx (now : Nat) (s : State) : (logTimeout now s).idx = s.idx := by unfold logTimeout; split <;> (try split) <;> rfl
@[simp] theorem logTimeout_bufOEM (now : Nat) (s : State) : (logTimeout now s).bufOEM = s.bufOEM := by unfold logTimeout; split <;> (try split) <;> rfl
@[simp] theorem logTimeout_bufHM (now : Nat) (s : State) : (logTimeout now s).bufHM = s.bufHM := by unfold logTimeout; split <;> (try split) <;> rfl
@[simp] theorem logTimeout_bufHS (now : Nat) (s : State) : (logTimeout now s).bufHS = s.bufHS := by unfold logTimeout; split <;> (try split) <;> rfl
@[simp] theorem logTimeout_txBuf (now : Nat) (s : State) : (logTimeout now s).txBuf = s.txBuf := by unfold logTimeout; split <;> (try split) <;> rfl
@[simp] theorem logTimeout_rxFifo (now : Nat) (s : State) : (logTimeout now s).rxFifo = s.rxFifo := by unfold logTimeout; split <;> (try split) <;> rfl
@[simp] theorem logTimeout_txStart (now : Nat) (s : State) : (logTimeout now s).txStart = s.txStart := by unfold logTimeout; split <;> (try split) <;> rfl
@[simp] theorem logTimeout_pending (now : Nat) (s : State) : (logTimeout now s).pending = s.pending := by unfold logTimeout; split <;> (try split) <;> rfl
@[simp] theorem logTimeout_gate (now : Nat) (s : State) : (logTimeout now s).gate = s.gate := by unfold logTimeout; split <;> (try split) <;> rfl
@[simp] theorem logTimeout_cq (now : Nat) (s : State) : (logTimeout now s).cq = s.cq := by unfold logTimeout; split <;> (try split) <;> rfl
@[simp] theorem logTimeout_sfi (now : Nat) (s : State) : (logTimeout now s).sfi = s.sfi := by unfold logTimeout; split <;> (try split) <;> rfl
@[simp] theorem logTimeout_pubOEM (now : Nat) (s : State) : (logTimeout now s).pubOEM = s.pubOEM := by unfold logTimeout; split <;> (try split) <;> rfl
@[simp] theorem logTimeout_pubHtr (now : Nat) (s : State) : (logTimeout now s).pubHtr = s.pubHtr := by unfold logTimeout; split <;> (try split) <;> rfl
@[simp] theorem logTimeout_oemKind (now : Nat) (s : State) : (logTimeout now s).oemKind = s.oemKind := by unfold logTimeout; split <;> (try split) <;> rfl
@[simp] theorem logTimeout_heaterResponding (now : Nat) (s : State) : (logTimeout now s).heaterResponding = s.heaterResponding := by unfold logTimeout; split <;> (try split) <;> rfl
@[simp] theorem logTimeout_recycleCount (now : Nat) (s : State) : (logTimeout now s).recycleCount = s.recycleCount := by unfold logTimeout; split <;> (try split) <;> rfl
@[simp] theorem logTimeout_fault (now : Nat) (s : State) : (logTimeout now s).fault = s.fault := by unfold logTimeout; split <;> (try split) <;> rfl
@[simp] theorem logTimeout_clock (now : Nat) (s : State) : (logTimeout now s).clock = s.clock := by unfold logTimeout; split <;> (try split) <;> rfl
@[simp] theorem logTimeout_configOpen (now : Nat) (s : State) : (logTimeout now s).configOpen = s.configOpen := by unfold logTimeout; split <;> (try split) <;> rfl
@[simp] theorem logTimeout_script (now : Nat) (s : State) : (logTimeout now s).script = s.script := by unfold logTimeout; split <;> (try split) <;> rfl
@[simp] theorem logTimeout_result (now : Nat) (s : State) : (logTimeout now s).result = s.result := by unfold logTimeout; split <;> (try split) <;> rfl

@[simp] theorem timeout_cfg (h : Bool) (now : Nat) (s : State) : (timeout h now s).cfg = s.cfg := by simp [timeout]
@[simp] theorem timeout_master (h : Bool) (now : Nat) (s : State) : (timeout h now s).master = s.master := by simp [timeout]
@[simp] theorem timeout_tLast (h : Bool) (now : Nat) (s : State) : (timeout h now s).tLast = s.tLast := by simp [timeout]
@[simp] theorem timeout_tReport (h : Bool) (now : Nat) (s : State) : (timeout h now s).tReport = s.tReport := by simp [timeout]
@[simp] theorem timeout_bufOEM (h : Bool) (now : Nat) (s : State) : (timeout h now s).bufOEM = s.bufOEM := by simp [timeout]
@[simp] theorem timeout_bufHM (h : Bool) (now : Nat) (s : State) : (timeout h now s).bufHM = s.bufHM := by simp [timeout]
@[simp] theorem timeout_bufHS (h : Bool) (now : Nat) (s : State) : (timeout h now s).bufHS = s.bufHS := by simp [timeout]
@[simp] theorem timeout_txBuf (h : Bool) (now : Nat) (s : State) : (timeout h now s).txBuf = s.txBuf := by simp [timeout]
@[simp] theorem timeout_txStart (h : Bool) (now : Nat) (s : State) : (timeout h now s).txStart = s.txStart := by simp [timeout]
@[simp] theorem timeout_pending (h : Bool) (now : Nat) (s : State) : (timeout h now s).pending = s.pending := by simp [timeout]
@[simp] theorem timeout_gate (h : Bool) (now : Nat) (s : State) : (timeout h now s).gate = s.gate := by simp [timeout]
@[simp] theorem timeout_cq (h : Bool) (now : Nat) (s : State) : (timeout h now s).cq = s.cq := by simp [timeout]
@[simp] theorem timeout_sfi (h : Bool) (now : Nat) (s : State) : (timeout h now s).sfi = s.sfi := by simp [timeout]
@[simp] theorem timeout_pubOEM (h : Bool) (now : Nat) (s : State) : (timeout h now s).pubOEM = s.pubOEM := by simp [timeout]
@[simp] theorem timeout_pubHtr (h : Bool) (now : Nat) (s : State) : (timeout h now s).pubHtr = s.pubHtr := by simp [timeout]
@[simp] theorem timeout_oemKind (h : Bool) (now : Nat) (s : State) : (timeout h now s).oemKind = s.oemKind := by simp [timeout]
@[simp] theorem timeout_fault (h : Bool) (now : Nat) (s : State) : (timeout h now s).fault = s.fault := by simp [timeout]
@[simp] theorem timeout_clock (h : Bool) (now : Nat) (s : State) : (timeout h now s).clock = s.clock := by simp [timeout]
@[simp] theorem timeout_configOpen (h : Bool) (now : Nat) (s : State) : (timeout h now s).configOpen = s.configOpen := by simp [timeout]
@[simp] theorem timeout_script (h : Bool) (now : Nat) (s : State) : (timeout h now s).script = s.script := by simp [timeout]
@[simp] theorem timeout_result (h : Bool) (now : Nat) (s : State) : (timeout h now s).result = s.result := by simp [timeout]

@[simp] theorem collect_cfg (w : RxBuf) (n : BusState) (h : Bool) (now : Nat) (rx : Rx) (s : State) :
    (collect w n h now rx s).cfg = s.cfg := by
  unfold collect; split <;> (try dsimp only) <;> split <;> simp
@[simp] theorem collect_configOpen (w : RxBuf) (n : BusState) (h : Bool) (now : Nat) (rx : Rx) (s : State) :
    (collect w n h now rx s).configOpen = s.configOpen := by
  unfold collect; split <;> (try dsimp only) <;> split <;> simp

end Sys2Proof.Machine
end

