-- ==== Sys2Proof/Laws/Ops.lean ====
section
/-! SUPPORT. What each shared operation can do, said once: the lemmas that claims about the meanings cite instead of
unfolding them. -/

namespace Sys2Proof.Machine

/-! Time and the poll phase (R151, R152). -/

theorem tick_eq {now : Nat} {s : State} {k : State → Host.Outcome State Fault Refusal} (h : s.clock ≤ now) :
    tick now s k = k { fresh s with clock := now } := by
  simp [tick, Nat.not_lt.mpr h]

theorem tick_next {now : Nat} {s t : State} {k : State → Host.Outcome State Fault Refusal}
    (h : tick now s k = .next t) : s.clock ≤ now ∧ k { fresh s with clock := now } = .next t := by
  unfold tick at h
  split at h
  · cases h
  · exact ⟨by omega, h⟩

theorem poll_eq (now : Nat) (s : State) : poll now { fresh s with clock := now } = afterPoll now s := by
  unfold poll afterPoll fresh
  cases h : s.rxFifo <;> simp

theorem polled_eq (now : Nat) (s : State) : polled now { fresh s with clock := now } = polled now s := rfl

theorem polled_nil {now : Nat} {s : State} (h : s.rxFifo = []) : polled now s = none := by simp [polled, h]

theorem polled_cons {now : Nat} {s : State} {b : Byte} {rest : List Byte} (h : s.rxFifo = b :: rest) :
    polled now s = some (b, now - s.tLast) := by simp [polled, h]

theorem afterPoll_of_nil {now : Nat} {s : State} (h : s.rxFifo = []) :
    afterPoll now s = { s with configOpen := false, clock := now, events := [], result := .none } := by
  simp only [afterPoll, h, List.tail_nil, if_true]

@[simp] theorem afterPoll_cfg (now : Nat) (s : State) : (afterPoll now s).cfg = s.cfg := rfl
@[simp] theorem afterPoll_st (now : Nat) (s : State) : (afterPoll now s).st = s.st := rfl
@[simp] theorem afterPoll_master (now : Nat) (s : State) : (afterPoll now s).master = s.master := rfl
@[simp] theorem afterPoll_tReport (now : Nat) (s : State) : (afterPoll now s).tReport = s.tReport := rfl
@[simp] theorem afterPoll_idx (now : Nat) (s : State) : (afterPoll now s).idx = s.idx := rfl
@[simp] theorem afterPoll_bufOEM (now : Nat) (s : State) : (afterPoll now s).bufOEM = s.bufOEM := rfl
@[simp] theorem afterPoll_bufHM (now : Nat) (s : State) : (afterPoll now s).bufHM = s.bufHM := rfl
@[simp] theorem afterPoll_bufHS (now : Nat) (s : State) : (afterPoll now s).bufHS = s.bufHS := rfl
@[simp] theorem afterPoll_txBuf (now : Nat) (s : State) : (afterPoll now s).txBuf = s.txBuf := rfl
@[simp] theorem afterPoll_txStart (now : Nat) (s : State) : (afterPoll now s).txStart = s.txStart := rfl
@[simp] theorem afterPoll_pending (now : Nat) (s : State) : (afterPoll now s).pending = s.pending := rfl
@[simp] theorem afterPoll_gate (now : Nat) (s : State) : (afterPoll now s).gate = s.gate := rfl
@[simp] theorem afterPoll_cq (now : Nat) (s : State) : (afterPoll now s).cq = s.cq := rfl
@[simp] theorem afterPoll_sfi (now : Nat) (s : State) : (afterPoll now s).sfi = s.sfi := rfl
@[simp] theorem afterPoll_pubOEM (now : Nat) (s : State) : (afterPoll now s).pubOEM = s.pubOEM := rfl
@[simp] theorem afterPoll_pubHtr (now : Nat) (s : State) : (afterPoll now s).pubHtr = s.pubHtr := rfl
@[simp] theorem afterPoll_oemKind (now : Nat) (s : State) : (afterPoll now s).oemKind = s.oemKind := rfl
@[simp] theorem afterPoll_heaterResponding (now : Nat) (s : State) : (afterPoll now s).heaterResponding = s.heaterResponding := rfl
@[simp] theorem afterPoll_recycleCount (now : Nat) (s : State) : (afterPoll now s).recycleCount = s.recycleCount := rfl
@[simp] theorem afterPoll_tLog (now : Nat) (s : State) : (afterPoll now s).tLog = s.tLog := rfl
@[simp] theorem afterPoll_fault (now : Nat) (s : State) : (afterPoll now s).fault = s.fault := rfl
@[simp] theorem afterPoll_script (now : Nat) (s : State) : (afterPoll now s).script = s.script := rfl
@[simp] theorem afterPoll_configOpen (now : Nat) (s : State) : (afterPoll now s).configOpen = false := rfl
@[simp] theorem afterPoll_clock (now : Nat) (s : State) : (afterPoll now s).clock = now := rfl
@[simp] theorem afterPoll_rxFifo (now : Nat) (s : State) : (afterPoll now s).rxFifo = s.rxFifo.tail := rfl
@[simp] theorem afterPoll_events (now : Nat) (s : State) : (afterPoll now s).events = [] := rfl
@[simp] theorem afterPoll_result (now : Nat) (s : State) : (afterPoll now s).result = .none := rfl
theorem afterPoll_tLast_nil {now : Nat} {s : State} (h : s.rxFifo = []) : (afterPoll now s).tLast = s.tLast := if_pos h
theorem afterPoll_tLast_cons {now : Nat} {s : State} {b : Byte} {rest : List Byte} (h : s.rxFifo = b :: rest) :
    (afterPoll now s).tLast = now := if_neg (by simp [h])

/-- The last bus activity a pass sees is never ahead of its time (R45 (g)). -/
theorem afterPoll_tLast_le {now : Nat} {s : State} (h : s.tLast ≤ s.clock) (hc : s.clock ≤ now) :
    (afterPoll now s).tLast ≤ now := by
  unfold afterPoll
  dsimp only
  split <;> omega

theorem pass_eq {row : BusState} {now : Nat} {s : State} {rule : Rx → State → Host.Outcome State Fault Refusal}
    (hst : s.st = row) (hc : s.clock ≤ now) : pass row now s rule = rule (polled now s) (afterPoll now s) := by
  unfold pass
  rw [if_pos hst, tick_eq hc, poll_eq, polled_eq]

theorem pass_next {row : BusState} {now : Nat} {s t : State} {rule : Rx → State → Host.Outcome State Fault Refusal}
    (h : pass row now s rule = .next t) :
    s.st = row ∧ s.clock ≤ now ∧ rule (polled now s) (afterPoll now s) = .next t := by
  unfold pass at h
  split at h
  · rename_i hst
    obtain ⟨hc, h⟩ := tick_next h
    rw [poll_eq, polled_eq] at h
    exact ⟨hst, hc, h⟩
  · cases h

theorem pass_rowNotSelected {row : BusState} {now : Nat} {s : State}
    {rule : Rx → State → Host.Outcome State Fault Refusal} (h : s.st ≠ row) :
    pass row now s rule = .refused .rowNotSelected := by
  simp [pass, h]

theorem pass_timeRanBack {row : BusState} {now : Nat} {s : State}
    {rule : Rx → State → Host.Outcome State Fault Refusal} (hst : s.st = row) (h : now < s.clock) :
    pass row now s rule = .refused .timeRanBack := by
  simp [pass, tick, hst, h]

/-! Accessors and working copies (R116, R117, R119). -/

theorem onFrame_eq {role : Role} {f : Frame} {k : Raw → Result} {s : State} {r : Result} (h : f.valid role = true)
    (hk : k f.bytes = r) : onFrame role f k s = .next { s with events := [], result := r } := by
  simp [onFrame, h, hk, answer]

theorem onFrame_next {role : Role} {f : Frame} {k : Raw → Result} {s t : State} (h : onFrame role f k s = .next t) :
    f.valid role = true ∧ t = answer (k f.bytes) s := by
  unfold onFrame at h
  split at h
  · exact ⟨‹_›, by cases h; rfl⟩
  · cases h

theorem onFrame_invalid {role : Role} {f : Frame} {k : Raw → Result} {s : State} (h : f.valid role = false) :
    onFrame role f k s = .fault .accessorOnUnvalidated := by simp [onFrame, h]

theorem onCopy_next {r : Except Refusal Raw} {s t : State} (h : onCopy r s = .next t) :
    ∃ x, r = .ok x ∧ t = answer (.raw x) s := by
  unfold onCopy at h
  split at h
  · exact ⟨_, rfl, by cases h; rfl⟩
  · cases h

theorem answerRaw_next {r : Except Refusal Raw} {s t : State} (h : answerRaw r s = .next t) :
    ∃ x, r = .ok x ∧ t = answer (.raw x) s := by
  unfold answerRaw at h
  split at h
  · exact ⟨_, rfl, by cases h; rfl⟩
  · cases h

/-- A two-byte read, as a number (R62, R90). -/
theorem memRead2_toNat (x : Raw) (hi lo : Fin 24) : (memRead2 x hi lo).toNat = wide x hi lo := by
  have h := (x[lo]).isLt
  simp only [memRead2, wide, BitVec.toNat_append]
  rw [Nat.shiftLeft_eq, ← Nat.shiftLeft_eq, ← Nat.shiftLeft_add_eq_or_of_lt h, Nat.shiftLeft_eq]

theorem ofInt8_toNat {v : Int} (h : fits8 v) : ((BitVec.ofInt 8 v).toNat : Int) = v := by
  obtain ⟨h1, h2⟩ := h
  rw [BitVec.toNat_ofInt]
  omega

theorem ofInt16_toNat {v : Int} (h : fits16 v) : ((BitVec.ofInt 16 v).toNat : Int) = v := by
  obtain ⟨h1, h2⟩ := h
  rw [BitVec.toNat_ofInt]
  omega

theorem setCount8_ok {off : Fin 24} {v : Int} {x : Raw} (h : fits8 v) :
    setCount8 off v x = .ok (x.set off (BitVec.ofInt 8 v)) := if_pos h

theorem setCount8_refused {off : Fin 24} {v : Int} {x : Raw} (h : ¬ fits8 v) :
    setCount8 off v x = .error .fieldRange := if_neg h

theorem setCount16_ok {hi lo : Fin 24} {v : Int} {x : Raw} (h : fits16 v) :
    setCount16 hi lo v x = .ok (memWrite2 x hi lo (BitVec.ofInt 16 v)) := if_pos h

theorem setCount16_refused {hi lo : Fin 24} {v : Int} {x : Raw} (h : ¬ fits16 v) :
    setCount16 hi lo v x = .error .fieldRange := if_neg h

/-- What a two-byte count reads back as (R62). -/
theorem wide_memWrite2 {hi lo : Fin 24} {v : Int} {x : Raw} (hne : hi ≠ lo) (h : fits16 v) :
    (wide (memWrite2 x hi lo (BitVec.ofInt 16 v)) hi lo : Int) = v := by
  rw [← memRead2_toNat, memRead2_memWrite2 hne, ofInt16_toNat h]

theorem memWrite2_sameExcept {x : Raw} {hi lo : Fin 24} {v : Half} {l : List Nat} (h1 : hi.val ∈ l)
    (h2 : lo.val ∈ l) : sameExcept l x (memWrite2 x hi lo v) :=
  fun _ hi' hn => memWrite2_getElem hi' (fun e => hn (e ▸ h1)) (fun e => hn (e ▸ h2))

/-- A temperature byte exists exactly for the values in its range, and reads back (R123, R206). -/
theorem tbyte_ok {signed : Bool} {v : Int} (h : fitsDegrees signed v) :
    tbyte signed v = .ok (BitVec.ofInt 8 v) ∧ degreesOf signed (BitVec.ofInt 8 v) = v := by
  cases signed
  · simp only [fitsDegrees, Bool.false_eq_true, if_false] at h
    refine ⟨by simp [tbyte, h], ?_⟩
    simp only [degreesOf, Bool.false_eq_true, if_false]
    exact ofInt8_toNat h
  · simp only [fitsDegrees, if_true] at h
    refine ⟨by simp [tbyte, h], ?_⟩
    simp only [degreesOf, if_true]
    rw [BitVec.toInt_ofInt]
    exact Int.bmod_eq_of_le (by omega) (by omega)

theorem tbyte_refused {signed : Bool} {v : Int} (h : ¬ fitsDegrees signed v) :
    tbyte signed v = .error .fieldRange := by
  cases signed
  · simp only [fitsDegrees, Bool.false_eq_true, if_false] at h
    simp only [tbyte, Bool.false_eq_true, if_false, if_neg h]
  · simp only [fitsDegrees, if_true] at h
    simp only [tbyte, if_true, if_neg h]

/-- `SET_CRC` gives a frame that verifies (R114). -/
@[simp] theorem verifyCrc_setCrc (x : Raw) : verifyCrc (setCrc x) = true := by
  simp [verifyCrc]

/-! The composer and frame preparation (R183, R200 to R206). -/

/-- The three bytes a case of the composer writes (R200). -/
theorem writeDemand_spec (mode actual demand : Byte) (x : Raw) :
    (writeDemand mode actual demand x)[13] = mode ∧ (writeDemand mode actual demand x)[3] = actual ∧
      (writeDemand mode actual demand x)[4] = demand ∧ sameExcept [3, 4, 13] x (writeDemand mode actual demand x) := by
  refine ⟨by simp [writeDemand], by simp [writeDemand],
    by simp [writeDemand], ?_⟩
  intro i hi hn
  simp only [List.mem_cons, List.not_mem_nil, or_false, not_or] at hn
  simp only [writeDemand, Vector.getElem_set]
  rw [if_neg (by omega), if_neg (by omega), if_neg (by omega)]

theorem prepareFrame_parrot (cfg : Cfg) (q : CommandQueue) (basis : Raw) (inp : Inp) :
    prepareFrame cfg q basis false inp =
      .ok (setCrc (setByte 0 headerPassive (setByte 2 (commandByte cfg q) basis))) := rfl

/-- Every frame `PREPARE_FRAME` answers verifies (R71, R183). -/
theorem prepareFrame_verifies {cfg : Cfg} {q : CommandQueue} {basis f : Raw} {m : Bool} {inp : Inp}
    (h : prepareFrame cfg q basis m inp = .ok f) : verifyCrc f = true := by
  unfold prepareFrame at h
  cases m
  · simp at h
    rw [← h]; simp
  · simp only [if_true] at h
    cases h1 : setTuning inp (setByte 0 headerActive (setByte 2 (commandByte cfg q) basis)) with
    | error e => simp [h1, bind, Except.bind] at h
    | ok g =>
      cases h2 : compose cfg.tempByteSigned inp g with
      | error e => simp [h1, h2, bind, Except.bind] at h
      | ok y =>
        simp [h1, h2, bind, Except.bind, pure, Except.pure] at h
        rw [← h]; simp

theorem transmit_eq {basis f : Raw} {m : Bool} {now : Nat} {inp : Inp} {s : State}
    (h : prepareFrame s.cfg.toCfg s.cq basis m inp = .ok f) (ht : s.txStart = none) :
    transmit basis m now inp s = .next { s with
      txBuf := f, cq := { s.cq with raw := none }, txStart := some now, pending := true, st := .transmitSelf } := by
  simp [transmit, h, txStart, ht, consumeRaw]

theorem transmit_next {basis : Raw} {m : Bool} {now : Nat} {inp : Inp} {s t : State}
    (h : transmit basis m now inp s = .next t) : ∃ f, prepareFrame s.cfg.toCfg s.cq basis m inp = .ok f ∧
      t = { txStart now { s with txBuf := f, cq := consumeRaw s.cq } with st := .transmitSelf } := by
  unfold transmit at h
  split at h
  · cases h
  · exact ⟨_, ‹_›, by cases h; rfl⟩

/-! Construction (R10, R180). -/

/-- Construction accepts exactly the valid configurations, as they are (R10, R262 (c)). -/
theorem construct_cases (c : Cfg) :
    (c.valid = true ∧ ∃ v, construct c = .ok v ∧ v.toCfg = c) ∨
    (c.valid = false ∧ construct c = .error .invalidConfig) := by
  unfold construct
  by_cases h : c.valid = true
  · exact .inl ⟨h, ⟨c, h⟩, dif_pos h, rfl⟩
  · exact .inr ⟨by simpa using h, dif_neg h⟩

/-- On a valid configuration only the strict inequality of R180 decides whether new intervals are valid. -/
theorem withIntervals_valid (v : ValidCfg) (a b f : Nat) :
    (v.toCfg.withIntervals a b f).valid = decide (a + b < f) := by
  have h := v.isValid
  rw [Bool.eq_iff_iff]
  simp only [Cfg.valid, Bool.and_eq_true, decide_eq_true_eq] at h ⊢
  exact ⟨fun g => g.1.1.1.2, fun g => ⟨⟨⟨⟨h.1.1.1.1, g⟩, h.1.1.2⟩, h.1.2⟩, h.2⟩⟩

/-- What `TX_CONFIG` does (R180): before reset release it writes the intervals or yields no engine; after, it is refused. -/
theorem execTxConfig_cases (a b f : Nat) (s : State) :
    (s.configOpen = true ∧ a + b < f ∧ ∃ c : ValidCfg, c.toCfg = s.cfg.toCfg.withIntervals a b f ∧
      execTxConfig a b f s = .next { fresh s with cfg := c }) ∨
    (s.configOpen = true ∧ f ≤ a + b ∧ execTxConfig a b f s = .fault .invalidConfig) ∨
    (s.configOpen = false ∧ execTxConfig a b f s = .refused .configClosed) := by
  unfold execTxConfig
  cases ho : s.configOpen
  · exact .inr (.inr ⟨rfl, rfl⟩)
  · obtain ⟨hv, c, hc, he⟩ | ⟨hv, hc⟩ := construct_cases (s.cfg.toCfg.withIntervals a b f)
    · rw [withIntervals_valid, decide_eq_true_eq] at hv
      exact .inl ⟨rfl, hv, c, he, by simp [hc]⟩
    · rw [withIntervals_valid, decide_eq_false_iff_not, Nat.not_lt] at hv
      exact .inr (.inl ⟨rfl, hv, by simp [hc]⟩)

/-! The scheduler (R181, R182). -/

theorem txStart_cases (now : Nat) (s : State) :
    (s.txStart = none ∧ txStart now s = { s with txStart := some now, pending := true }) ∨
    ((∃ t, s.txStart = some t) ∧ txStart now s = { s with fault := some .startWhileActive }) := by
  unfold txStart
  cases h : s.txStart with
  | none => exact .inl ⟨rfl, rfl⟩
  | some t => exact .inr ⟨⟨t, rfl⟩, rfl⟩

/-- The three clauses of `TX_CHECK`, as one update of the state of a cycle in flight (R182). -/
theorem txCheck_eq {now t : Nat} {s : State} (h : s.txStart = some t) :
    txCheck now s = { s with
      gate := if s.cfg.tFrameTime < now - t then false else s.gate || decide (s.cfg.tStartDelay < now - t)
      events := s.events ++
        if s.pending = true ∧ s.cfg.tStartDelay + s.cfg.tFrontPorch < now - t then [.txWrite s.txBuf] else []
      pending := s.pending && decide (now - t ≤ s.cfg.tStartDelay + s.cfg.tFrontPorch)
      txStart := if s.cfg.tFrameTime < now - t then none else some t } := by
  obtain ⟨cfg, st, master, tLast, tReport, idx, b1, b2, b3, txBuf, fifo, txs, pending, gate, cq, sfi, po, ph, ok, hr, rc,
    tl, fault, configOpen, clock, script, events, result⟩ := s
  simp only at h
  subst h
  by_cases h1 : cfg.tStartDelay < now - t <;> by_cases h2 : cfg.tStartDelay + cfg.tFrontPorch < now - t <;>
    by_cases h3 : cfg.tFrameTime < now - t <;> cases pending <;>
    simp [txCheck, assertGate, writePending, releaseGate, emit, h1, h2, h3] <;> omega

theorem txProgress_eq {now t : Nat} {s : State} (h : s.txStart = some t) :
    txProgress now s = if s.cfg.tFrameTime < now - t then .done else .busy := by
  simp [txProgress, h]

/-! Fault inference (R215, R218). -/

/-- `CHECK_VOLTS` writes the inferred code and the command queue and nothing else (R218). -/
theorem checkVolts_eq (x : Raw) (inp : Inp) (s : State) : checkVolts x inp s = { s with
    sfi := if compensatedVolts s.cfg.kCable x < inp.lowVoltThreshold then ⟨s.sfi.prev, .lowVolts, s.sfi.inhibited⟩ else s.sfi
    cq := if compensatedVolts s.cfg.kCable x < inp.lowVoltThreshold then requestOff true s.cq else s.cq } := by
  unfold checkVolts
  split <;> rfl

/-- The code and the inhibit that `SFI_UPDATE` leaves, `prev` aside (R215). -/
theorem inferCode_prev (next : Byte) (e : SmartError) : (inferCode next e).prev = e.prev := by
  unfold inferCode
  repeat' split
  all_goals rfl

/-- A validated heater reply, as one update (R161, R166). -/
theorem acceptReply_eq (f : Frame) (now : Nat) (inp : Inp) (s : State) : acceptReply f now inp s =
    { checkVolts f.bytes inp (sfiUpdate f.bytes[2] s) with pubHtr := some ⟨f, now⟩, heaterResponding := true } := by
  simp only [acceptReply, checkVolts_eq]
  rfl

/-! Collection, timeout and recovery (R155, R156, R265). -/

theorem recover_eq (w : Bool) (err : Event) (s : State) :
    recover w err s = { s with
      heaterResponding := s.heaterResponding && !w, events := s.events ++ [err, .recycle], rxFifo := [], idx := 0
      recycleCount := s.recycleCount + 1#32, st := .housekeeping } := by
  simp [recover, recycle, emit]

theorem logTimeout_cases (now : Nat) (s : State) :
    ((s.tLog = none ∨ ∃ t, s.tLog = some t ∧ t + 10 ≤ now) ∧
      logTimeout now s = { s with tLog := some now, events := s.events ++ [.logTimeout] }) ∨
    ((∃ t, s.tLog = some t ∧ now < t + 10) ∧ logTimeout now s = s) := by
  unfold logTimeout tLogMod emit
  cases h : s.tLog with
  | none => exact .inl ⟨.inl rfl, rfl⟩
  | some t =>
    dsimp only
    split
    · exact .inl ⟨.inr ⟨t, rfl, by omega⟩, rfl⟩
    · exact .inr ⟨⟨t, rfl, by omega⟩, rfl⟩

/-- A store at an offset of the frame (R155). -/
theorem rxStore_eq {w : RxBuf} {i : Nat} {b : Byte} {s : State} (h : i < 24) :
    rxStore w i b s = withRx w ((rxBytes w s).set i b) s := by
  cases w <;> simp only [rxStore, withRx, rxBytes, Vector.setIfInBounds, Array.setIfInBounds, Vector.size_toArray, h,
    dif_pos] <;> rfl

theorem collect_byte {w : RxBuf} {next : BusState} {hw : Bool} {now gap : Nat} {b : Byte} {s : State} :
    collect w next hw now (some (b, gap)) s = { rxStore w s.idx b s with
      idx := s.idx + 1, st := if s.idx + 1 = 24 then next else s.st } := by
  unfold collect
  dsimp only
  split
  · rfl
  · cases w <;> rfl

theorem collect_wait {w : RxBuf} {next : BusState} {hw : Bool} {now : Nat} {s : State}
    (h : now - s.tLast ≤ s.cfg.tData) : collect w next hw now none s = s := by
  simp [collect, Nat.not_lt.mpr h]

theorem collect_timeout {w : RxBuf} {next : BusState} {hw : Bool} {now : Nat} {s : State}
    (h : s.cfg.tData < now - s.tLast) : collect w next hw now none s = timeout hw now s := by
  simp [collect, h]

end Sys2Proof.Machine
end

