-- ==== Sys2Proof/Laws/Exec.lean ====
section
/-! SUPPORT. What an operation can do when it answers a next state, said once for all of them: claims over every operation
take these cases and unfold no meaning. -/

namespace Sys2Proof.Machine

/-- The rule of a row of `STEP`, after the poll phase (R157 to R168). -/
def rowRule (row : BusState) (now : Nat) (inp : Inp) (rx : Rx) (s : State) : Host.Outcome State Fault Refusal :=
  match row with
  | .idle => idleRule now inp rx s
  | .observeMasterFrame => .next (collect .oem .validateMasterFrame false now rx s)
  | .validateMasterFrame => .next (validateMasterRule now s)
  | .awaitHeaterReplyToMaster => .next (collect .hm .validateHeaterReplyToMaster true now rx s)
  | .validateHeaterReplyToMaster => .next (validateReplyToMasterRule now inp s)
  | .reportMasterExchange => reportMasterRule now inp s
  | .transmitSelf => .next (transmitSelfRule now s)
  | .awaitHeaterReplyToSelf => .next (collect .hs .validateHeaterReplyToSelf true now rx s)
  | .validateHeaterReplyToSelf => .next (validateReplyToSelfRule now inp s)
  | .reportSelfExchange => .next { s with st := .housekeeping }
  | .housekeeping => .next (resume s)

/-- Every row of `STEP` is a pass through its rule. -/
theorem exec_stepRow (row : BusState) (now : Nat) (inp : Inp) (s : State) :
    exec (stepRow row now inp) s = pass row now s (rowRule row now inp) := by
  cases row <;> rfl

/-- A pass in the state it belongs to, at a time that has not run back (R151). -/
theorem exec_pass {now : Nat} {inp : Inp} {s : State} (h : s.clock ≤ now) :
    exec (stepRow s.st now inp) s = rowRule s.st now inp (polled now s) (afterPoll now s) := by
  rw [exec_stepRow, pass_eq rfl h]

/-- What an operation did. -/
inductive Did (i : Instr) (s t : State) : Prop where
  /-- It returned a value and changed nothing else. -/
  | answered (r : Result) (notPass : ∀ row now inp, i ≠ stepRow row now inp) (ht : t = answer r s)
  /-- A pass. -/
  | passed (now : Nat) (inp : Inp) (hi : i = stepRow s.st now inp) (hc : s.clock ≤ now)
      (hr : rowRule s.st now inp (polled now s) (afterPoll now s) = .next t)
  | received (b : Byte) (hi : i = .busRx b) (ht : t = { fresh s with rxFifo := s.rxFifo ++ [b] })
  | recycled (hi : i = .recycle) (ht : t = recycle (fresh s))
  | wasReset (t0 : Nat) (hi : i = .reset t0) (ht : t = resetTo t0 s)
  | configured (a b f : Nat) (c : ValidCfg) (hi : i = .txConfig a b f) (ho : s.configOpen = true) (h : a + b < f)
      (hc : c.toCfg = s.cfg.toCfg.withIntervals a b f) (ht : t = { fresh s with cfg := c })
  | started (now : Nat) (hi : i = .txStart now) (hc : s.clock ≤ now) (ht : t = txStart now { fresh s with clock := now })
  | checked (now : Nat) (hi : i = .txCheck now) (hc : s.clock ≤ now) (ht : t = { txCheck now { fresh s with clock := now }
      with result := .tx (txProgress now { fresh s with clock := now }) })
  | prepared (basis : Raw) (m : Bool) (inp : Inp) (f : Raw) (hi : i = .prepareFrame basis m inp)
      (hf : prepareFrame s.cfg.toCfg s.cq basis m inp = .ok f)
      (ht : t = { fresh s with cq := consumeRaw s.cq, result := .prepared ⟨f, .controller⟩ })
  | inferred (next : Byte) (hi : i = .sfiUpdate next) (ht : t = sfiUpdate next (fresh s))
  | volted (f : Frame) (inp : Inp) (hi : i = .checkVolts f inp) (ht : t = checkVolts f.bytes inp (fresh s))
  | controlled (e : SmartError) (hi : i = .sfiInhibit ∨ i = .sfiReset) (ht : t = { fresh s with sfi := e })
  | requested (q : CommandQueue) (hi : (∃ v, i = .reqOn v ∧ q = requestOn v s.cq) ∨
      (∃ v, i = .reqOff v ∧ q = requestOff v s.cq) ∨ ∃ b, i = .reqRaw b ∧ q = requestRaw b s.cq)
      (ht : t = { fresh s with cq := q })

theorem stepRow_did {row : BusState} {now : Nat} {inp : Inp} {s t : State}
    (h : exec (stepRow row now inp) s = .next t) : Did (stepRow row now inp) s t := by
  rw [exec_stepRow] at h
  obtain ⟨hst, hc, hr⟩ := pass_next h
  subst hst
  exact .passed now inp rfl hc hr

theorem onFrame_did {i : Instr} {role : Role} {f : Frame} {k : Raw → Result} {s t : State}
    (hn : ∀ row now inp, i ≠ stepRow row now inp) (h : onFrame role f k s = .next t) : Did i s t :=
  .answered _ hn (onFrame_next h).2

theorem onCopy_did {i : Instr} {r : Except Refusal Raw} {s t : State}
    (hn : ∀ row now inp, i ≠ stepRow row now inp) (h : onCopy r s = .next t) : Did i s t :=
  have ⟨_, _, ht⟩ := onCopy_next h
  .answered _ hn ht

theorem answerRaw_did {i : Instr} {r : Except Refusal Raw} {s t : State}
    (hn : ∀ row now inp, i ≠ stepRow row now inp) (h : answerRaw r s = .next t) : Did i s t :=
  have ⟨_, _, ht⟩ := answerRaw_next h
  .answered _ hn ht

theorem answer_did {i : Instr} {r : Result} {s t : State} (hn : ∀ row now inp, i ≠ stepRow row now inp)
    (h : (.next (answer r s) : Host.Outcome State Fault Refusal) = .next t) : Did i s t :=
  .answered r hn (Host.Outcome.next.inj h).symm

/-- Only a `STEP` has the number of `STEP` (R91). -/
theorem notRow (i : Instr) (h : i.opNumber ≠ some 0x01#8) : ∀ row now inp, i ≠ stepRow row now inp := by
  rintro row now inp rfl
  cases row <;> exact h rfl

/-- Every operation that answers a next state did one of these (R91). -/
theorem exec_did {i : Instr} {s t : State} (h : exec i s = .next t) : Did i s t := by
  cases i
  case stepIdle now inp => exact stepRow_did (row := .idle) h
  case stepObserveMasterFrame now inp => exact stepRow_did (row := .observeMasterFrame) h
  case stepValidateMasterFrame now inp => exact stepRow_did (row := .validateMasterFrame) h
  case stepAwaitHeaterReplyToMaster now inp => exact stepRow_did (row := .awaitHeaterReplyToMaster) h
  case stepValidateHeaterReplyToMaster now inp => exact stepRow_did (row := .validateHeaterReplyToMaster) h
  case stepReportMasterExchange now inp => exact stepRow_did (row := .reportMasterExchange) h
  case stepTransmitSelf now inp => exact stepRow_did (row := .transmitSelf) h
  case stepAwaitHeaterReplyToSelf now inp => exact stepRow_did (row := .awaitHeaterReplyToSelf) h
  case stepValidateHeaterReplyToSelf now inp => exact stepRow_did (row := .validateHeaterReplyToSelf) h
  case stepReportSelfExchange now inp => exact stepRow_did (row := .reportSelfExchange) h
  case stepHousekeeping now inp => exact stepRow_did (row := .housekeeping) h
  case crc16 data => exact answer_did (notRow _ (by simp [Instr.opNumber])) h
  case setCrc x => exact answer_did (notRow _ (by simp [Instr.opNumber])) h
  case verifyCrc x => exact answer_did (notRow _ (by simp [Instr.opNumber])) h
  case parse x role => exact answer_did (notRow _ (by simp [Instr.opNumber])) h
  case serialize f =>
    simp only [exec, execSerialize] at h
    exact onFrame_did (notRow _ (by simp [Instr.opNumber])) h
  case getCHeader f =>
    simp only [exec, execGetCHeader] at h
    exact onFrame_did (notRow _ (by simp [Instr.opNumber])) h
  case setCHeader x v =>
    simp only [exec, execSetCHeader] at h
    exact onCopy_did (notRow _ (by simp [Instr.opNumber])) h
  case getCLength f =>
    simp only [exec, execGetCLength] at h
    exact onFrame_did (notRow _ (by simp [Instr.opNumber])) h
  case setCLength x v =>
    simp only [exec, execSetCLength] at h
    exact onCopy_did (notRow _ (by simp [Instr.opNumber])) h
  case getCCommand f =>
    simp only [exec, execGetCCommand] at h
    exact onFrame_did (notRow _ (by simp [Instr.opNumber])) h
  case setCCommand x v =>
    simp only [exec, execSetCCommand] at h
    exact onCopy_did (notRow _ (by simp [Instr.opNumber])) h
  case getCActualTemperature f =>
    simp only [exec, execGetCActualTemperature] at h
    exact onFrame_did (notRow _ (by simp [Instr.opNumber])) h
  case setCActualTemperature x v =>
    simp only [exec, execSetCActualTemperature] at h
    exact onCopy_did (notRow _ (by simp [Instr.opNumber])) h
  case getCDesiredDemand f view =>
    cases view <;>
    · simp only [exec, execGetCDesiredDemand] at h
      exact onFrame_did (notRow _ (by simp [Instr.opNumber])) h
  case setCDesiredDemand x view v =>
    cases view <;>
    · simp only [exec, execSetCDesiredDemand] at h
      exact onCopy_did (notRow _ (by simp [Instr.opNumber])) h
  case getCPumpMinFreq f =>
    simp only [exec, execGetCPumpMinFreq] at h
    exact onFrame_did (notRow _ (by simp [Instr.opNumber])) h
  case setCPumpMinFreq x v =>
    simp only [exec, execSetCPumpMinFreq] at h
    exact onCopy_did (notRow _ (by simp [Instr.opNumber])) h
  case getCPumpMaxFreq f =>
    simp only [exec, execGetCPumpMaxFreq] at h
    exact onFrame_did (notRow _ (by simp [Instr.opNumber])) h
  case setCPumpMaxFreq x v =>
    simp only [exec, execSetCPumpMaxFreq] at h
    exact onCopy_did (notRow _ (by simp [Instr.opNumber])) h
  case getCFanMinRPM f =>
    simp only [exec, execGetCFanMinRPM] at h
    exact onFrame_did (notRow _ (by simp [Instr.opNumber])) h
  case setCFanMinRPM x v =>
    simp only [exec, execSetCFanMinRPM] at h
    exact onCopy_did (notRow _ (by simp [Instr.opNumber])) h
  case getCFanMaxRPM f =>
    simp only [exec, execGetCFanMaxRPM] at h
    exact onFrame_did (notRow _ (by simp [Instr.opNumber])) h
  case setCFanMaxRPM x v =>
    simp only [exec, execSetCFanMaxRPM] at h
    exact onCopy_did (notRow _ (by simp [Instr.opNumber])) h
  case getCOperatingVoltage f =>
    simp only [exec, execGetCOperatingVoltage] at h
    exact onFrame_did (notRow _ (by simp [Instr.opNumber])) h
  case setCOperatingVoltage x v =>
    simp only [exec, execSetCOperatingVoltage] at h
    exact onCopy_did (notRow _ (by simp [Instr.opNumber])) h
  case getCFanSensorSelect f =>
    simp only [exec, execGetCFanSensorSelect] at h
    exact onFrame_did (notRow _ (by simp [Instr.opNumber])) h
  case setCFanSensorSelect x v =>
    simp only [exec, execSetCFanSensorSelect] at h
    exact onCopy_did (notRow _ (by simp [Instr.opNumber])) h
  case getCOperatingMode f =>
    simp only [exec, execGetCOperatingMode] at h
    exact onFrame_did (notRow _ (by simp [Instr.opNumber])) h
  case setCOperatingMode x v =>
    simp only [exec, execSetCOperatingMode] at h
    exact onCopy_did (notRow _ (by simp [Instr.opNumber])) h
  case getCMinTemperature f =>
    simp only [exec, execGetCMinTemperature] at h
    exact onFrame_did (notRow _ (by simp [Instr.opNumber])) h
  case setCMinTemperature x v =>
    simp only [exec, execSetCMinTemperature] at h
    exact onCopy_did (notRow _ (by simp [Instr.opNumber])) h
  case getCMaxTemperature f =>
    simp only [exec, execGetCMaxTemperature] at h
    exact onFrame_did (notRow _ (by simp [Instr.opNumber])) h
  case setCMaxTemperature x v =>
    simp only [exec, execSetCMaxTemperature] at h
    exact onCopy_did (notRow _ (by simp [Instr.opNumber])) h
  case getCGlowDrive f =>
    simp only [exec, execGetCGlowDrive] at h
    exact onFrame_did (notRow _ (by simp [Instr.opNumber])) h
  case setCGlowDrive x v =>
    simp only [exec, execSetCGlowDrive] at h
    exact onCopy_did (notRow _ (by simp [Instr.opNumber])) h
  case getCPrime f =>
    simp only [exec, execGetCPrime] at h
    exact onFrame_did (notRow _ (by simp [Instr.opNumber])) h
  case setCPrime x v =>
    simp only [exec, execSetCPrime] at h
    exact onCopy_did (notRow _ (by simp [Instr.opNumber])) h
  case getCReserved f =>
    simp only [exec, execGetCReserved] at h
    exact onFrame_did (notRow _ (by simp [Instr.opNumber])) h
  case setCReserved x v =>
    simp only [exec, execSetCReserved] at h
    exact onCopy_did (notRow _ (by simp [Instr.opNumber])) h
  case getCCrc f =>
    simp only [exec, execGetCCrc] at h
    exact onFrame_did (notRow _ (by simp [Instr.opNumber])) h
  case getHHeader f =>
    simp only [exec, execGetHHeader] at h
    exact onFrame_did (notRow _ (by simp [Instr.opNumber])) h
  case setHHeader x v =>
    simp only [exec, execSetHHeader] at h
    exact onCopy_did (notRow _ (by simp [Instr.opNumber])) h
  case getHLength f =>
    simp only [exec, execGetHLength] at h
    exact onFrame_did (notRow _ (by simp [Instr.opNumber])) h
  case setHLength x v =>
    simp only [exec, execSetHLength] at h
    exact onCopy_did (notRow _ (by simp [Instr.opNumber])) h
  case getHRunState f =>
    simp only [exec, execGetHRunState] at h
    exact onFrame_did (notRow _ (by simp [Instr.opNumber])) h
  case setHRunState x v =>
    simp only [exec, execSetHRunState] at h
    exact onCopy_did (notRow _ (by simp [Instr.opNumber])) h
  case getHErrState f =>
    simp only [exec, execGetHErrState] at h
    exact onFrame_did (notRow _ (by simp [Instr.opNumber])) h
  case setHErrState x v =>
    simp only [exec, execSetHErrState] at h
    exact onCopy_did (notRow _ (by simp [Instr.opNumber])) h
  case getHSupplyVoltage f =>
    simp only [exec, execGetHSupplyVoltage] at h
    exact onFrame_did (notRow _ (by simp [Instr.opNumber])) h
  case setHSupplyVoltage x v =>
    simp only [exec, execSetHSupplyVoltage] at h
    exact onCopy_did (notRow _ (by simp [Instr.opNumber])) h
  case getHFanRPM f =>
    simp only [exec, execGetHFanRPM] at h
    exact onFrame_did (notRow _ (by simp [Instr.opNumber])) h
  case setHFanRPM x v =>
    simp only [exec, execSetHFanRPM] at h
    exact onCopy_did (notRow _ (by simp [Instr.opNumber])) h
  case getHFanVoltage f =>
    simp only [exec, execGetHFanVoltage] at h
    exact onFrame_did (notRow _ (by simp [Instr.opNumber])) h
  case setHFanVoltage x v =>
    simp only [exec, execSetHFanVoltage] at h
    exact onCopy_did (notRow _ (by simp [Instr.opNumber])) h
  case getHHeatExchgTemp f =>
    simp only [exec, execGetHHeatExchgTemp] at h
    exact onFrame_did (notRow _ (by simp [Instr.opNumber])) h
  case setHHeatExchgTemp x v =>
    simp only [exec, execSetHHeatExchgTemp] at h
    exact onCopy_did (notRow _ (by simp [Instr.opNumber])) h
  case getHGlowVoltage f =>
    simp only [exec, execGetHGlowVoltage] at h
    exact onFrame_did (notRow _ (by simp [Instr.opNumber])) h
  case setHGlowVoltage x v =>
    simp only [exec, execSetHGlowVoltage] at h
    exact onCopy_did (notRow _ (by simp [Instr.opNumber])) h
  case getHGlowCurrent f =>
    simp only [exec, execGetHGlowCurrent] at h
    exact onFrame_did (notRow _ (by simp [Instr.opNumber])) h
  case setHGlowCurrent x v =>
    simp only [exec, execSetHGlowCurrent] at h
    exact onCopy_did (notRow _ (by simp [Instr.opNumber])) h
  case getHActualPumpFreq f =>
    simp only [exec, execGetHActualPumpFreq] at h
    exact onFrame_did (notRow _ (by simp [Instr.opNumber])) h
  case setHActualPumpFreq x v =>
    simp only [exec, execSetHActualPumpFreq] at h
    exact onCopy_did (notRow _ (by simp [Instr.opNumber])) h
  case getHStoredErrorCode f =>
    simp only [exec, execGetHStoredErrorCode] at h
    exact onFrame_did (notRow _ (by simp [Instr.opNumber])) h
  case setHStoredErrorCode x v =>
    simp only [exec, execSetHStoredErrorCode] at h
    exact onCopy_did (notRow _ (by simp [Instr.opNumber])) h
  case getHReserved f =>
    simp only [exec, execGetHReserved] at h
    exact onFrame_did (notRow _ (by simp [Instr.opNumber])) h
  case setHReserved x v =>
    simp only [exec, execSetHReserved] at h
    exact onCopy_did (notRow _ (by simp [Instr.opNumber])) h
  case getHCrc f =>
    simp only [exec, execGetHCrc] at h
    exact onFrame_did (notRow _ (by simp [Instr.opNumber])) h
  case composeDisabled x inp =>
    simp only [exec, execComposeDisabled] at h
    exact answerRaw_did (notRow _ (by simp [Instr.opNumber])) h
  case composeStandard x inp =>
    simp only [exec, execComposeStandard] at h
    exact answerRaw_did (notRow _ (by simp [Instr.opNumber])) h
  case composeWindowed x inp =>
    simp only [exec, execComposeWindowed] at h
    exact answerRaw_did (notRow _ (by simp [Instr.opNumber])) h
  case composeLinearHz x inp =>
    simp only [exec, execComposeLinearHz] at h
    exact answerRaw_did (notRow _ (by simp [Instr.opNumber])) h
  case rdOemFrame => exact answer_did (notRow _ (by simp [Instr.opNumber])) h
  case rdHtrFrame => exact answer_did (notRow _ (by simp [Instr.opNumber])) h
  case rdFault => exact answer_did (notRow _ (by simp [Instr.opNumber])) h
  case rdStatus => exact answer_did (notRow _ (by simp [Instr.opNumber])) h
  case frameController x => exact answer_did (notRow _ (by simp [Instr.opNumber])) h
  case frameHeater x => exact answer_did (notRow _ (by simp [Instr.opNumber])) h
  case busRx b => exact .received b rfl (Host.Outcome.next.inj h).symm
  case recycle => exact .recycled rfl (Host.Outcome.next.inj h).symm
  case reset t0 => exact .wasReset t0 rfl (Host.Outcome.next.inj h).symm
  case txConfig a b c =>
    obtain ⟨ho, hl, v, hv, he⟩ | ⟨-, -, he⟩ | ⟨-, he⟩ := execTxConfig_cases a b c s
    · exact .configured a b c v rfl ho hl hv (Host.Outcome.next.inj (he.symm.trans h)).symm
    · cases he.symm.trans h
    · cases he.symm.trans h
  case txStart now =>
    simp only [exec, execTxStart] at h
    obtain ⟨hc, h⟩ := tick_next h
    exact .started now rfl hc (Host.Outcome.next.inj h).symm
  case txCheck now =>
    simp only [exec, execTxCheck] at h
    obtain ⟨hc, h⟩ := tick_next h
    exact .checked now rfl hc (Host.Outcome.next.inj h).symm
  case prepareFrame basis m inp =>
    simp only [exec, execPrepareFrame] at h
    split at h
    · cases h
    · exact .prepared basis m inp _ rfl ‹_› (Host.Outcome.next.inj h).symm
  case sfiUpdate next => exact .inferred next rfl (Host.Outcome.next.inj h).symm
  case sfiInhibit => exact .controlled _ (.inl rfl) (Host.Outcome.next.inj h).symm
  case sfiReset => exact .controlled _ (.inr rfl) (Host.Outcome.next.inj h).symm
  case checkVolts f inp =>
    simp only [exec, execCheckVolts] at h
    split at h
    · exact .volted f inp rfl (Host.Outcome.next.inj h).symm
    · cases h
  case reqOn v => exact .requested _ (.inl ⟨v, rfl, rfl⟩) (Host.Outcome.next.inj h).symm
  case reqOff v => exact .requested _ (.inr (.inl ⟨v, rfl, rfl⟩)) (Host.Outcome.next.inj h).symm
  case reqRaw b => exact .requested _ (.inr (.inr ⟨b, rfl, rfl⟩)) (Host.Outcome.next.inj h).symm

end Sys2Proof.Machine
end

