-- ==== Sys2Proof/Laws/PerInstr.lean ====
section
/-! SUPPORT. Per-instruction laws: the code of an operation begins with its operation number (R91), and a frame layout has
none. -/

namespace Sys2Proof.Laws

/-- The first byte of an operation's code is its number of R91; a frame line has no number. -/
def OpNumber.Statement (i : Instr) : Prop :=
  match i.opNumber with
  | some n => (encode i).format = .op8 ∧ (encode i).code.head? = some n
  | none => ∃ role, (encode i).format = .frame24 role

theorem OpNumber.busRx (b : Byte) : OpNumber.Statement (.busRx b) := ⟨rfl, rfl⟩
theorem OpNumber.stepIdle (now : Nat) (inp : Inp) : OpNumber.Statement (.stepIdle now inp) := ⟨rfl, rfl⟩
theorem OpNumber.stepObserveMasterFrame (now : Nat) (inp : Inp) : OpNumber.Statement (.stepObserveMasterFrame now inp) := ⟨rfl, rfl⟩
theorem OpNumber.stepValidateMasterFrame (now : Nat) (inp : Inp) : OpNumber.Statement (.stepValidateMasterFrame now inp) := ⟨rfl, rfl⟩
theorem OpNumber.stepAwaitHeaterReplyToMaster (now : Nat) (inp : Inp) : OpNumber.Statement (.stepAwaitHeaterReplyToMaster now inp) := ⟨rfl, rfl⟩
theorem OpNumber.stepValidateHeaterReplyToMaster (now : Nat) (inp : Inp) : OpNumber.Statement (.stepValidateHeaterReplyToMaster now inp) := ⟨rfl, rfl⟩
theorem OpNumber.stepReportMasterExchange (now : Nat) (inp : Inp) : OpNumber.Statement (.stepReportMasterExchange now inp) := ⟨rfl, rfl⟩
theorem OpNumber.stepTransmitSelf (now : Nat) (inp : Inp) : OpNumber.Statement (.stepTransmitSelf now inp) := ⟨rfl, rfl⟩
theorem OpNumber.stepAwaitHeaterReplyToSelf (now : Nat) (inp : Inp) : OpNumber.Statement (.stepAwaitHeaterReplyToSelf now inp) := ⟨rfl, rfl⟩
theorem OpNumber.stepValidateHeaterReplyToSelf (now : Nat) (inp : Inp) : OpNumber.Statement (.stepValidateHeaterReplyToSelf now inp) := ⟨rfl, rfl⟩
theorem OpNumber.stepReportSelfExchange (now : Nat) (inp : Inp) : OpNumber.Statement (.stepReportSelfExchange now inp) := ⟨rfl, rfl⟩
theorem OpNumber.stepHousekeeping (now : Nat) (inp : Inp) : OpNumber.Statement (.stepHousekeeping now inp) := ⟨rfl, rfl⟩
theorem OpNumber.recycle : OpNumber.Statement (.recycle) := ⟨rfl, rfl⟩
theorem OpNumber.reset (t0 : Nat) : OpNumber.Statement (.reset t0) := ⟨rfl, rfl⟩
theorem OpNumber.crc16 (data : List Byte) : OpNumber.Statement (.crc16 data) := ⟨rfl, rfl⟩
theorem OpNumber.setCrc (x : Raw) : OpNumber.Statement (.setCrc x) := ⟨rfl, rfl⟩
theorem OpNumber.verifyCrc (x : Raw) : OpNumber.Statement (.verifyCrc x) := ⟨rfl, rfl⟩
theorem OpNumber.parse (x : Raw) (role : Role) : OpNumber.Statement (.parse x role) := ⟨rfl, rfl⟩
theorem OpNumber.serialize (f : Frame) : OpNumber.Statement (.serialize f) := ⟨rfl, rfl⟩
theorem OpNumber.getCHeader (f : Frame) : OpNumber.Statement (.getCHeader f) := ⟨rfl, rfl⟩
theorem OpNumber.setCHeader (x : Raw) (v : Byte) : OpNumber.Statement (.setCHeader x v) := ⟨rfl, rfl⟩
theorem OpNumber.getCLength (f : Frame) : OpNumber.Statement (.getCLength f) := ⟨rfl, rfl⟩
theorem OpNumber.setCLength (x : Raw) (v : Byte) : OpNumber.Statement (.setCLength x v) := ⟨rfl, rfl⟩
theorem OpNumber.getCCommand (f : Frame) : OpNumber.Statement (.getCCommand f) := ⟨rfl, rfl⟩
theorem OpNumber.setCCommand (x : Raw) (v : Byte) : OpNumber.Statement (.setCCommand x v) := ⟨rfl, rfl⟩
theorem OpNumber.getCActualTemperature (f : Frame) : OpNumber.Statement (.getCActualTemperature f) := ⟨rfl, rfl⟩
theorem OpNumber.setCActualTemperature (x : Raw) (v : Int) : OpNumber.Statement (.setCActualTemperature x v) := ⟨rfl, rfl⟩
theorem OpNumber.getCDesiredDemand (f : Frame) (view : DemandView) : OpNumber.Statement (.getCDesiredDemand f view) := ⟨rfl, rfl⟩
theorem OpNumber.setCDesiredDemand (x : Raw) (view : DemandView) (v : Int) : OpNumber.Statement (.setCDesiredDemand x view v) := ⟨rfl, rfl⟩
theorem OpNumber.getCPumpMinFreq (f : Frame) : OpNumber.Statement (.getCPumpMinFreq f) := ⟨rfl, rfl⟩
theorem OpNumber.setCPumpMinFreq (x : Raw) (p : ℚ) : OpNumber.Statement (.setCPumpMinFreq x p) := ⟨rfl, rfl⟩
theorem OpNumber.getCPumpMaxFreq (f : Frame) : OpNumber.Statement (.getCPumpMaxFreq f) := ⟨rfl, rfl⟩
theorem OpNumber.setCPumpMaxFreq (x : Raw) (p : ℚ) : OpNumber.Statement (.setCPumpMaxFreq x p) := ⟨rfl, rfl⟩
theorem OpNumber.getCFanMinRPM (f : Frame) : OpNumber.Statement (.getCFanMinRPM f) := ⟨rfl, rfl⟩
theorem OpNumber.setCFanMinRPM (x : Raw) (v : Int) : OpNumber.Statement (.setCFanMinRPM x v) := ⟨rfl, rfl⟩
theorem OpNumber.getCFanMaxRPM (f : Frame) : OpNumber.Statement (.getCFanMaxRPM f) := ⟨rfl, rfl⟩
theorem OpNumber.setCFanMaxRPM (x : Raw) (v : Int) : OpNumber.Statement (.setCFanMaxRPM x v) := ⟨rfl, rfl⟩
theorem OpNumber.getCOperatingVoltage (f : Frame) : OpNumber.Statement (.getCOperatingVoltage f) := ⟨rfl, rfl⟩
theorem OpNumber.setCOperatingVoltage (x : Raw) (p : ℚ) : OpNumber.Statement (.setCOperatingVoltage x p) := ⟨rfl, rfl⟩
theorem OpNumber.getCFanSensorSelect (f : Frame) : OpNumber.Statement (.getCFanSensorSelect f) := ⟨rfl, rfl⟩
theorem OpNumber.setCFanSensorSelect (x : Raw) (v : Byte) : OpNumber.Statement (.setCFanSensorSelect x v) := ⟨rfl, rfl⟩
theorem OpNumber.getCOperatingMode (f : Frame) : OpNumber.Statement (.getCOperatingMode f) := ⟨rfl, rfl⟩
theorem OpNumber.setCOperatingMode (x : Raw) (v : Byte) : OpNumber.Statement (.setCOperatingMode x v) := ⟨rfl, rfl⟩
theorem OpNumber.getCMinTemperature (f : Frame) : OpNumber.Statement (.getCMinTemperature f) := ⟨rfl, rfl⟩
theorem OpNumber.setCMinTemperature (x : Raw) (v : Int) : OpNumber.Statement (.setCMinTemperature x v) := ⟨rfl, rfl⟩
theorem OpNumber.getCMaxTemperature (f : Frame) : OpNumber.Statement (.getCMaxTemperature f) := ⟨rfl, rfl⟩
theorem OpNumber.setCMaxTemperature (x : Raw) (v : Int) : OpNumber.Statement (.setCMaxTemperature x v) := ⟨rfl, rfl⟩
theorem OpNumber.getCGlowDrive (f : Frame) : OpNumber.Statement (.getCGlowDrive f) := ⟨rfl, rfl⟩
theorem OpNumber.setCGlowDrive (x : Raw) (v : Byte) : OpNumber.Statement (.setCGlowDrive x v) := ⟨rfl, rfl⟩
theorem OpNumber.getCPrime (f : Frame) : OpNumber.Statement (.getCPrime f) := ⟨rfl, rfl⟩
theorem OpNumber.setCPrime (x : Raw) (v : Byte) : OpNumber.Statement (.setCPrime x v) := ⟨rfl, rfl⟩
theorem OpNumber.getCReserved (f : Frame) : OpNumber.Statement (.getCReserved f) := ⟨rfl, rfl⟩
theorem OpNumber.setCReserved (x : Raw) (v : Vector Byte 4) : OpNumber.Statement (.setCReserved x v) := ⟨rfl, rfl⟩
theorem OpNumber.getCCrc (f : Frame) : OpNumber.Statement (.getCCrc f) := ⟨rfl, rfl⟩
theorem OpNumber.getHHeader (f : Frame) : OpNumber.Statement (.getHHeader f) := ⟨rfl, rfl⟩
theorem OpNumber.setHHeader (x : Raw) (v : Byte) : OpNumber.Statement (.setHHeader x v) := ⟨rfl, rfl⟩
theorem OpNumber.getHLength (f : Frame) : OpNumber.Statement (.getHLength f) := ⟨rfl, rfl⟩
theorem OpNumber.setHLength (x : Raw) (v : Byte) : OpNumber.Statement (.setHLength x v) := ⟨rfl, rfl⟩
theorem OpNumber.getHRunState (f : Frame) : OpNumber.Statement (.getHRunState f) := ⟨rfl, rfl⟩
theorem OpNumber.setHRunState (x : Raw) (v : Byte) : OpNumber.Statement (.setHRunState x v) := ⟨rfl, rfl⟩
theorem OpNumber.getHErrState (f : Frame) : OpNumber.Statement (.getHErrState f) := ⟨rfl, rfl⟩
theorem OpNumber.setHErrState (x : Raw) (v : Byte) : OpNumber.Statement (.setHErrState x v) := ⟨rfl, rfl⟩
theorem OpNumber.getHSupplyVoltage (f : Frame) : OpNumber.Statement (.getHSupplyVoltage f) := ⟨rfl, rfl⟩
theorem OpNumber.setHSupplyVoltage (x : Raw) (p : ℚ) : OpNumber.Statement (.setHSupplyVoltage x p) := ⟨rfl, rfl⟩
theorem OpNumber.getHFanRPM (f : Frame) : OpNumber.Statement (.getHFanRPM f) := ⟨rfl, rfl⟩
theorem OpNumber.setHFanRPM (x : Raw) (v : Int) : OpNumber.Statement (.setHFanRPM x v) := ⟨rfl, rfl⟩
theorem OpNumber.getHFanVoltage (f : Frame) : OpNumber.Statement (.getHFanVoltage f) := ⟨rfl, rfl⟩
theorem OpNumber.setHFanVoltage (x : Raw) (p : ℚ) : OpNumber.Statement (.setHFanVoltage x p) := ⟨rfl, rfl⟩
theorem OpNumber.getHHeatExchgTemp (f : Frame) : OpNumber.Statement (.getHHeatExchgTemp f) := ⟨rfl, rfl⟩
theorem OpNumber.setHHeatExchgTemp (x : Raw) (v : Int) : OpNumber.Statement (.setHHeatExchgTemp x v) := ⟨rfl, rfl⟩
theorem OpNumber.getHGlowVoltage (f : Frame) : OpNumber.Statement (.getHGlowVoltage f) := ⟨rfl, rfl⟩
theorem OpNumber.setHGlowVoltage (x : Raw) (p : ℚ) : OpNumber.Statement (.setHGlowVoltage x p) := ⟨rfl, rfl⟩
theorem OpNumber.getHGlowCurrent (f : Frame) : OpNumber.Statement (.getHGlowCurrent f) := ⟨rfl, rfl⟩
theorem OpNumber.setHGlowCurrent (x : Raw) (p : ℚ) : OpNumber.Statement (.setHGlowCurrent x p) := ⟨rfl, rfl⟩
theorem OpNumber.getHActualPumpFreq (f : Frame) : OpNumber.Statement (.getHActualPumpFreq f) := ⟨rfl, rfl⟩
theorem OpNumber.setHActualPumpFreq (x : Raw) (p : ℚ) : OpNumber.Statement (.setHActualPumpFreq x p) := ⟨rfl, rfl⟩
theorem OpNumber.getHStoredErrorCode (f : Frame) : OpNumber.Statement (.getHStoredErrorCode f) := ⟨rfl, rfl⟩
theorem OpNumber.setHStoredErrorCode (x : Raw) (v : Byte) : OpNumber.Statement (.setHStoredErrorCode x v) := ⟨rfl, rfl⟩
theorem OpNumber.getHReserved (f : Frame) : OpNumber.Statement (.getHReserved f) := ⟨rfl, rfl⟩
theorem OpNumber.setHReserved (x : Raw) (v : Vector Byte 4) : OpNumber.Statement (.setHReserved x v) := ⟨rfl, rfl⟩
theorem OpNumber.getHCrc (f : Frame) : OpNumber.Statement (.getHCrc f) := ⟨rfl, rfl⟩
theorem OpNumber.txConfig (startDelay : Nat) (frontPorch : Nat) (frameTime : Nat) : OpNumber.Statement (.txConfig startDelay frontPorch frameTime) := ⟨rfl, rfl⟩
theorem OpNumber.txStart (now : Nat) : OpNumber.Statement (.txStart now) := ⟨rfl, rfl⟩
theorem OpNumber.txCheck (now : Nat) : OpNumber.Statement (.txCheck now) := ⟨rfl, rfl⟩
theorem OpNumber.prepareFrame (basis : Raw) (selfIsMaster : Bool) (inp : Inp) : OpNumber.Statement (.prepareFrame basis selfIsMaster inp) := ⟨rfl, rfl⟩
theorem OpNumber.composeDisabled (x : Raw) (inp : Inp) : OpNumber.Statement (.composeDisabled x inp) := ⟨rfl, rfl⟩
theorem OpNumber.composeStandard (x : Raw) (inp : Inp) : OpNumber.Statement (.composeStandard x inp) := ⟨rfl, rfl⟩
theorem OpNumber.composeWindowed (x : Raw) (inp : Inp) : OpNumber.Statement (.composeWindowed x inp) := ⟨rfl, rfl⟩
theorem OpNumber.composeLinearHz (x : Raw) (inp : Inp) : OpNumber.Statement (.composeLinearHz x inp) := ⟨rfl, rfl⟩
theorem OpNumber.sfiUpdate (next : Byte) : OpNumber.Statement (.sfiUpdate next) := ⟨rfl, rfl⟩
theorem OpNumber.sfiInhibit : OpNumber.Statement (.sfiInhibit) := ⟨rfl, rfl⟩
theorem OpNumber.sfiReset : OpNumber.Statement (.sfiReset) := ⟨rfl, rfl⟩
theorem OpNumber.checkVolts (f : Frame) (inp : Inp) : OpNumber.Statement (.checkVolts f inp) := ⟨rfl, rfl⟩
theorem OpNumber.reqOn (set : Bool) : OpNumber.Statement (.reqOn set) := ⟨rfl, rfl⟩
theorem OpNumber.reqOff (set : Bool) : OpNumber.Statement (.reqOff set) := ⟨rfl, rfl⟩
theorem OpNumber.reqRaw (b : Byte) : OpNumber.Statement (.reqRaw b) := ⟨rfl, rfl⟩
theorem OpNumber.rdOemFrame : OpNumber.Statement (.rdOemFrame) := ⟨rfl, rfl⟩
theorem OpNumber.rdHtrFrame : OpNumber.Statement (.rdHtrFrame) := ⟨rfl, rfl⟩
theorem OpNumber.rdFault : OpNumber.Statement (.rdFault) := ⟨rfl, rfl⟩
theorem OpNumber.rdStatus : OpNumber.Statement (.rdStatus) := ⟨rfl, rfl⟩
theorem OpNumber.frameController (x : Raw) : OpNumber.Statement (.frameController x) := ⟨_, rfl⟩
theorem OpNumber.frameHeater (x : Raw) : OpNumber.Statement (.frameHeater x) := ⟨_, rfl⟩

end Sys2Proof.Laws
end

