-- ==== Sys2Proof/Machine/Codes.lean ====
section
/-! DEFINITION. The numeric codes of states, enumerations and errors (30_encoding.md R92, R93; 60_exceptions.md R255) and
the three error conditions that are levels of the status (R258 to R260). Labels: no meaning reads them. -/

namespace Sys2Proof.Machine

/-- State codes (R92). -/
def stateCode (s : BusState) : Nat :=
  match s with
  | .idle => 0
  | .observeMasterFrame => 1
  | .validateMasterFrame => 2
  | .awaitHeaterReplyToMaster => 3
  | .validateHeaterReplyToMaster => 4
  | .reportMasterExchange => 5
  | .transmitSelf => 6
  | .awaitHeaterReplyToSelf => 7
  | .validateHeaterReplyToSelf => 8
  | .reportSelfExchange => 9
  | .housekeeping => 10

/-- BusMaster codes (R93). -/
def masterCode (m : BusMaster) : Nat :=
  match m with
  | .none => 0
  | .oem => 1
  | .self => 2

/-- OemKind codes (R93). -/
def oemKindCode (k : OemKind) : Nat :=
  match k with
  | .none => 0
  | .active => 1
  | .passive => 2
  | .unknown => 3

/-- Thermostat method codes (R93). -/
def methodCode (m : Method) : Nat :=
  match m with
  | .standard => 0
  | .windowedHysteresis => 1
  | .linearHz => 2

/-- Inferred fault codes (R93). -/
def inferredCodeNumber (c : InferredCode) : Nat :=
  match c with
  | .none => 0
  | .ignitionRetry => 1
  | .ignitionFail => 2
  | .lowVolts => 3

/-- The code of an error event (R255); the other events are no errors. -/
def eventErrorCode (e : Event) : Option Nat :=
  match e with
  | .frameCrcMismatch _ => some 1
  | .frameCollectionTimeout _ _ => some 2
  | .txWrite _ => none
  | .recycle => none
  | .logTimeout => none

/-- Codes of the sticky reasons (R255). -/
def faultReasonCode (r : FaultReason) : Nat :=
  match r with
  | .startWhileActive => 16
  | .checkWithoutStart => 17

/-- Codes of the stops on programming errors (R255). -/
def faultCode (f : Fault) : Nat :=
  match f with
  | .invalidConfig => 18
  | .accessorOnUnvalidated => 19

/-- Codes of the two refusals the spec numbers (R255, R261); the others are the model's own names and have no code. -/
def refusalCode (r : Refusal) : Option Nat :=
  match r with
  | .fieldRange => some 32
  | .composerDomain => some 33
  | _ => none

/-- `HeaterNotResponding`, code 3: a level (R258). -/
def heaterNotResponding (s : State) : Bool := !s.heaterResponding

/-- `InferredIgnitionFault`, code 4: a level (R259). -/
def inferredIgnitionFault (s : State) : Bool := s.sfi.code == .ignitionRetry || s.sfi.code == .ignitionFail

/-- `LowVoltageFault`, code 5: a level (R260). -/
def lowVoltageFault (s : State) : Bool := s.sfi.code == .lowVolts

/-- The status errors a host sees (R255, R272), by code. -/
def statusErrors (s : State) : List Nat :=
  (if heaterNotResponding s then [3] else []) ++ (if inferredIgnitionFault s then [4] else []) ++
    (if lowVoltageFault s then [5] else [])

end Sys2Proof.Machine
end

