-- ==== Sys2Proof/Tests/Slice0.lean ====
section
/-! SUPPORT. The model's own tests. Expected values are those of 95_test_vectors.md and of the worked examples of the rules
named; codes are written out from 30_encoding.md R91 to R93. A theorem named `witness_` shows that the hypotheses of the
statement it names can be met together. -/

namespace Sys2Proof.Tests

set_option Elab.async false

open Sys2Proof Sys2Proof.Machine

/-! The test data of 95_test_vectors.md section 0. -/

def db : Raw := #v[0x76, 0x16, 0x00, 0x12, 0x14, 0x0E, 0x2D, 0x05, 0xAA, 0x11, 0x94, 0x78, 0x01, 0x32, 0x08, 0x23, 0x05, 0x00, 0x01, 0x2C, 0x0D, 0xAC, 0x4E, 0xD5]
def oem1 : Raw := #v[0x76, 0x16, 0x00, 0x13, 0x16, 0x0E, 0x2D, 0x05, 0xAA, 0x11, 0x94, 0x78, 0x01, 0x32, 0x08, 0x23, 0x05, 0x00, 0x01, 0x2C, 0x0D, 0xAC, 0x0A, 0x49]
def oem1bad : Raw := #v[0x76, 0x16, 0x00, 0x13, 0x16, 0x0F, 0x2D, 0x05, 0xAA, 0x11, 0x94, 0x78, 0x01, 0x32, 0x08, 0x23, 0x05, 0x00, 0x01, 0x2C, 0x0D, 0xAC, 0x0A, 0x49]
def oem2 : Raw := #v[0x78, 0x16, 0xA0, 0x13, 0x16, 0x0E, 0x2D, 0x05, 0xAA, 0x11, 0x94, 0xF0, 0x01, 0xCD, 0x08, 0x23, 0x05, 0x5A, 0x01, 0x2C, 0x0D, 0xAC, 0x64, 0x20]
def h2 : Raw := #v[0x76, 0x16, 0x02, 0x01, 0x00, 0x7D, 0x06, 0x72, 0x00, 0x50, 0x00, 0x28, 0x00, 0x62, 0x03, 0x20, 0x00, 0x00, 0x00, 0x00, 0x00, 0x00, 0x61, 0xAB]
def h4low : Raw := #v[0x76, 0x16, 0x04, 0x00, 0x00, 0x6E, 0x0B, 0xB8, 0x00, 0x78, 0x00, 0x6E, 0x00, 0x00, 0x03, 0x20, 0x18, 0x00, 0x00, 0x00, 0x00, 0x00, 0xD7, 0xF4]
def h5 : Raw := #v[0x76, 0x16, 0x05, 0x00, 0x00, 0x84, 0x0B, 0xB8, 0x00, 0x78, 0x00, 0x6E, 0x00, 0x00, 0x00, 0x00, 0x18, 0x00, 0x00, 0x00, 0x00, 0x00, 0x85, 0xC7]
def m0 : Raw := #v[0x76, 0x16, 0x00, 0x13, 0x16, 0x10, 0x37, 0x06, 0x90, 0x11, 0x94, 0x78, 0x01, 0x32, 0x08, 0x23, 0x05, 0x00, 0x01, 0x2C, 0x0D, 0xAC, 0xFC, 0xD2]
def q2 : Raw := #v[0x78, 0x16, 0x05, 0x13, 0x16, 0x0E, 0x2D, 0x05, 0xAA, 0x11, 0x94, 0x78, 0x01, 0x32, 0x08, 0x23, 0x05, 0x00, 0x01, 0x2C, 0x0D, 0xAC, 0xD3, 0xEA]
def q3 : Raw := #v[0x78, 0x16, 0x5A, 0x13, 0x16, 0x0E, 0x2D, 0x05, 0xAA, 0x11, 0x94, 0x78, 0x01, 0x32, 0x08, 0x23, 0x05, 0x00, 0x01, 0x2C, 0x0D, 0xAC, 0x71, 0x72]

/-- 22 zero bytes with their checksum: a frame no field of which is named (R94). -/
def zeros : Raw := setCrc Raw.zero

/-- IN1. -/
def in1 : Inp where
  pumpMin := 8 / 5
  pumpMax := 11 / 2
  fanMin := 1680
  fanMax := 4500
  sensorSelect := 1
  glowDrive := 5
  sysVoltage := 12
  lowVoltThreshold := 23 / 2
  method := .standard
  window := 2
  sensed := 37 / 2
  desired := 22
  thermoEnable := true
  fixedDemand := 0x14

/-- TC1 with another cable constant. -/
def cable (k : ℚ) (h : { Cfg.tc1 with kCable := k : Cfg }.valid = true) : ValidCfg := ⟨{ Cfg.tc1 with kCable := k }, h⟩

/-- The next state of an operation, if it has one, satisfies `p`. -/
def after (i : Instr) (s : State) (p : State → Bool) : Bool :=
  match exec i s with
  | .next t => p t
  | .fault _ => false
  | .refused _ => false

theorem exists_of_after {i : Instr} {s : State} {p : State → Bool} (h : after i s p = true) :
    ∃ t, exec i s = .next t ∧ p t = true := by
  unfold after at h
  split at h
  · exact ⟨_, ‹_›, h⟩
  · cases h
  · cases h

/-- The operation is refused for the reason. -/
def refusedFor (i : Instr) (s : State) (r : Refusal) : Bool :=
  match exec i s with
  | .refused q => decide (q = r)
  | .next _ => false
  | .fault _ => false

/-- The operation stops on the fault. -/
def faultsWith (i : Instr) (s : State) (r : Fault) : Bool :=
  match exec i s with
  | .fault q => decide (q = r)
  | .next _ => false
  | .refused _ => false

/-- The operation answers 24 bytes. -/
def gives (i : Instr) (x : Raw) : Bool := after i State.reset fun t => decide (t.result = .raw x)

/-- The operation answers the value. -/
def answers (i : Instr) (r : Result) : Bool := after i State.reset fun t => decide (t.result = r)

/-- The line decodes to the operation. -/
def decodes (l : Line) (i : Instr) : Bool :=
  match decode i.selector l with
  | .ok j => decide (j = i)
  | .error _ => false

/-- The line is refused for the reason. -/
def refuses (l : Line) (e : DecodeError) : Bool :=
  match decode .idle l with
  | .ok _ => false
  | .error d => decide (d = e)

/-! Well-formedness: each check refuses an ill-formed term. -/

/-- The eighteen `GET`s of the controller role. -/
def controllerGets (f : Frame) : List Instr :=
  [.getCHeader f, .getCLength f, .getCCommand f, .getCActualTemperature f, .getCDesiredDemand f .temperature,
    .getCPumpMinFreq f, .getCPumpMaxFreq f, .getCFanMinRPM f, .getCFanMaxRPM f, .getCOperatingVoltage f,
    .getCFanSensorSelect f, .getCOperatingMode f, .getCMinTemperature f, .getCMaxTemperature f, .getCGlowDrive f,
    .getCPrime f, .getCReserved f, .getCCrc f]

/-- The fourteen `GET`s of the heater role. -/
def heaterGets (f : Frame) : List Instr :=
  [.getHHeader f, .getHLength f, .getHRunState f, .getHErrState f, .getHSupplyVoltage f, .getHFanRPM f,
    .getHFanVoltage f, .getHHeatExchgTemp f, .getHGlowVoltage f, .getHGlowCurrent f, .getHActualPumpFreq f,
    .getHStoredErrorCode f, .getHReserved f, .getHCrc f]

theorem test_wellFormed_refuses_bad_checksum :
    (controllerGets ⟨oem1bad, .controller⟩).all (fun i => !i.wellFormed) = true ∧
    (heaterGets ⟨oem1bad, .heater⟩).all (fun i => !i.wellFormed) = true ∧
    (Instr.serialize ⟨oem1bad, .controller⟩).wellFormed = false ∧
    (Instr.checkVolts ⟨oem1bad, .heater⟩ in1).wellFormed = false := by decide +kernel

theorem test_wellFormed_refuses_wrong_role :
    (controllerGets ⟨h2, .heater⟩).all (fun i => !i.wellFormed) = true ∧
    (heaterGets ⟨oem1, .controller⟩).all (fun i => !i.wellFormed) = true ∧
    (Instr.checkVolts ⟨oem1, .controller⟩ in1).wellFormed = false := by decide +kernel

theorem test_wellFormed_accepts :
    (controllerGets ⟨oem1, .controller⟩).all Instr.wellFormed = true ∧
    (heaterGets ⟨h2, .heater⟩).all Instr.wellFormed = true ∧
    (Instr.serialize ⟨oem1, .controller⟩).wellFormed = true ∧
    (Instr.checkVolts ⟨h2, .heater⟩ in1).wellFormed = true := by decide +kernel

theorem test_cfg_valid : Cfg.tc1.valid = true ∧
    { Cfg.tc1 with tMargin := 1001 : Cfg }.valid = false ∧
    { Cfg.tc1 with tFrameTime := 7 : Cfg }.valid = false ∧
    { Cfg.tc1 with defaultBasis := oem1bad : Cfg }.valid = false ∧
    { Cfg.tc1 with defaultBasis := zeros : Cfg }.valid = false ∧
    { Cfg.tc1 with kCable := -1 / 100 : Cfg }.valid = false := by decide +kernel

/-! Decoding: a code written out for every operation, and each way to name none. -/

/-- Bytes 0 to 21 of DB. -/
def dbPayload : List Byte :=
  [0x76, 0x16, 0x00, 0x12, 0x14, 0x0E, 0x2D, 0x05, 0xAA, 0x11, 0x94, 0x78, 0x01, 0x32, 0x08, 0x23, 0x05, 0x00, 0x01, 0x2C, 0x0D, 0xAC]

/-- Bytes 0 to 21 of H2. -/
def h2Payload : List Byte :=
  [0x76, 0x16, 0x02, 0x01, 0x00, 0x7D, 0x06, 0x72, 0x00, 0x50, 0x00, 0x28, 0x00, 0x62, 0x03, 0x20, 0x00, 0x00, 0x00, 0x00, 0x00, 0x00]

/-- The 24 bytes of DB. -/
def dbBytes : List Byte :=
  [0x76, 0x16, 0x00, 0x12, 0x14, 0x0E, 0x2D, 0x05, 0xAA, 0x11, 0x94, 0x78, 0x01, 0x32, 0x08, 0x23, 0x05, 0x00, 0x01, 0x2C, 0x0D, 0xAC, 0x4E, 0xD5]

theorem test_decode_bus_and_engine :
    decodes (Line.ofCode [0x00, 0x76]) (.busRx 0x76) = true ∧
    decodes (Line.withInp [0x01] in1) (.stepIdle 0 in1) = true ∧
    decodes (Line.atTime [0x01] 324) (.stepObserveMasterFrame 324 Inp.zero) = true ∧
    decodes (Line.atTime [0x01] 324) (.stepValidateMasterFrame 324 Inp.zero) = true ∧
    decodes (Line.atTime [0x01] 325) (.stepAwaitHeaterReplyToMaster 325 Inp.zero) = true ∧
    decodes (Line.atTime [0x01] 354) (.stepValidateHeaterReplyToMaster 354 Inp.zero) = true ∧
    decodes (Line.atTime [0x01] 355) (.stepReportMasterExchange 355 Inp.zero) = true ∧
    decodes (Line.atTime [0x01] 361) (.stepTransmitSelf 361 Inp.zero) = true ∧
    decodes (Line.atTime [0x01] 377) (.stepAwaitHeaterReplyToSelf 377 Inp.zero) = true ∧
    decodes (Line.atTime [0x01] 409) (.stepValidateHeaterReplyToSelf 409 Inp.zero) = true ∧
    decodes (Line.atTime [0x01] 410) (.stepReportSelfExchange 410 Inp.zero) = true ∧
    decodes (Line.atTime [0x01] 411) (.stepHousekeeping 411 Inp.zero) = true ∧
    decodes (Line.ofCode [0x02]) .recycle = true ∧
    decodes (Line.atTime [0x0F] 7) (.reset 7) = true := by decide +kernel

theorem test_decode_codec :
    decodes (Line.ofCode [0x10, 0x02, 0x76, 0x16]) (.crc16 [0x76, 0x16]) = true ∧
    decodes (Line.ofCode (0x11 :: dbBytes)) (.setCrc db) = true ∧
    decodes (Line.ofCode (0x12 :: dbBytes)) (.verifyCrc db) = true ∧
    decodes (Line.ofCode (0x13 :: (dbBytes ++ [0x01]))) (.parse db .heater) = true ∧
    decodes (Line.ofCode (0x14 :: 0x00 :: dbPayload)) (.serialize ⟨db, .controller⟩) = true ∧
    decodes (Line.ofCode (0x14 :: 0x01 :: h2Payload)) (.serialize ⟨h2, .heater⟩) = true ∧
    decodes ⟨.frame24 .controller, dbBytes, 0, Inp.zero⟩ (.frameController db) = true ∧
    decodes ⟨.frame24 .heater, dbBytes, 0, Inp.zero⟩ (.frameHeater db) = true := by decide +kernel

theorem test_decode_get_controller :
    decodes (Line.ofCode (0x15 :: 0x00 :: 0x00 :: dbPayload)) (.getCHeader ⟨db, .controller⟩) = true ∧
    decodes (Line.ofCode (0x15 :: 0x00 :: 0x01 :: dbPayload)) (.getCLength ⟨db, .controller⟩) = true ∧
    decodes (Line.ofCode (0x15 :: 0x00 :: 0x02 :: dbPayload)) (.getCCommand ⟨db, .controller⟩) = true ∧
    decodes (Line.ofCode (0x15 :: 0x00 :: 0x03 :: dbPayload)) (.getCActualTemperature ⟨db, .controller⟩) = true ∧
    decodes (Line.ofCode (0x15 :: 0x00 :: 0x04 :: 0x00 :: dbPayload)) (.getCDesiredDemand ⟨db, .controller⟩ .temperature) = true ∧
    decodes (Line.ofCode (0x15 :: 0x00 :: 0x04 :: 0x01 :: dbPayload)) (.getCDesiredDemand ⟨db, .controller⟩ .hzProxy) = true ∧
    decodes (Line.ofCode (0x15 :: 0x00 :: 0x05 :: dbPayload)) (.getCPumpMinFreq ⟨db, .controller⟩) = true ∧
    decodes (Line.ofCode (0x15 :: 0x00 :: 0x06 :: dbPayload)) (.getCPumpMaxFreq ⟨db, .controller⟩) = true ∧
    decodes (Line.ofCode (0x15 :: 0x00 :: 0x07 :: dbPayload)) (.getCFanMinRPM ⟨db, .controller⟩) = true ∧
    decodes (Line.ofCode (0x15 :: 0x00 :: 0x09 :: dbPayload)) (.getCFanMaxRPM ⟨db, .controller⟩) = true ∧
    decodes (Line.ofCode (0x15 :: 0x00 :: 0x0B :: dbPayload)) (.getCOperatingVoltage ⟨db, .controller⟩) = true ∧
    decodes (Line.ofCode (0x15 :: 0x00 :: 0x0C :: dbPayload)) (.getCFanSensorSelect ⟨db, .controller⟩) = true ∧
    decodes (Line.ofCode (0x15 :: 0x00 :: 0x0D :: dbPayload)) (.getCOperatingMode ⟨db, .controller⟩) = true ∧
    decodes (Line.ofCode (0x15 :: 0x00 :: 0x0E :: dbPayload)) (.getCMinTemperature ⟨db, .controller⟩) = true ∧
    decodes (Line.ofCode (0x15 :: 0x00 :: 0x0F :: dbPayload)) (.getCMaxTemperature ⟨db, .controller⟩) = true ∧
    decodes (Line.ofCode (0x15 :: 0x00 :: 0x10 :: dbPayload)) (.getCGlowDrive ⟨db, .controller⟩) = true ∧
    decodes (Line.ofCode (0x15 :: 0x00 :: 0x11 :: dbPayload)) (.getCPrime ⟨db, .controller⟩) = true ∧
    decodes (Line.ofCode (0x15 :: 0x00 :: 0x12 :: dbPayload)) (.getCReserved ⟨db, .controller⟩) = true ∧
    decodes (Line.ofCode (0x15 :: 0x00 :: 0x16 :: dbPayload)) (.getCCrc ⟨db, .controller⟩) = true := by decide +kernel

theorem test_decode_get_heater :
    decodes (Line.ofCode (0x15 :: 0x01 :: 0x00 :: h2Payload)) (.getHHeader ⟨h2, .heater⟩) = true ∧
    decodes (Line.ofCode (0x15 :: 0x01 :: 0x01 :: h2Payload)) (.getHLength ⟨h2, .heater⟩) = true ∧
    decodes (Line.ofCode (0x15 :: 0x01 :: 0x02 :: h2Payload)) (.getHRunState ⟨h2, .heater⟩) = true ∧
    decodes (Line.ofCode (0x15 :: 0x01 :: 0x03 :: h2Payload)) (.getHErrState ⟨h2, .heater⟩) = true ∧
    decodes (Line.ofCode (0x15 :: 0x01 :: 0x04 :: h2Payload)) (.getHSupplyVoltage ⟨h2, .heater⟩) = true ∧
    decodes (Line.ofCode (0x15 :: 0x01 :: 0x06 :: h2Payload)) (.getHFanRPM ⟨h2, .heater⟩) = true ∧
    decodes (Line.ofCode (0x15 :: 0x01 :: 0x08 :: h2Payload)) (.getHFanVoltage ⟨h2, .heater⟩) = true ∧
    decodes (Line.ofCode (0x15 :: 0x01 :: 0x0A :: h2Payload)) (.getHHeatExchgTemp ⟨h2, .heater⟩) = true ∧
    decodes (Line.ofCode (0x15 :: 0x01 :: 0x0C :: h2Payload)) (.getHGlowVoltage ⟨h2, .heater⟩) = true ∧
    decodes (Line.ofCode (0x15 :: 0x01 :: 0x0E :: h2Payload)) (.getHGlowCurrent ⟨h2, .heater⟩) = true ∧
    decodes (Line.ofCode (0x15 :: 0x01 :: 0x10 :: h2Payload)) (.getHActualPumpFreq ⟨h2, .heater⟩) = true ∧
    decodes (Line.ofCode (0x15 :: 0x01 :: 0x11 :: h2Payload)) (.getHStoredErrorCode ⟨h2, .heater⟩) = true ∧
    decodes (Line.ofCode (0x15 :: 0x01 :: 0x12 :: h2Payload)) (.getHReserved ⟨h2, .heater⟩) = true ∧
    decodes (Line.ofCode (0x15 :: 0x01 :: 0x16 :: h2Payload)) (.getHCrc ⟨h2, .heater⟩) = true := by decide +kernel

/-- The value of a `SET` is coded as entry 2 says: 22 as 44, -23 as 45, 8/5 as 16 and 4. -/
theorem test_decode_set_controller :
    decodes (Line.ofCode (0x16 :: 0x00 :: 0x00 :: (dbBytes ++ [0x78]))) (.setCHeader db 0x78) = true ∧
    decodes (Line.ofCode (0x16 :: 0x00 :: 0x01 :: (dbBytes ++ [0x78]))) (.setCLength db 0x78) = true ∧
    decodes (Line.ofCode (0x16 :: 0x00 :: 0x02 :: (dbBytes ++ [0x78]))) (.setCCommand db 0x78) = true ∧
    decodes (Line.ofCode (0x16 :: 0x00 :: 0x03 :: (dbBytes ++ [0x2C]))) (.setCActualTemperature db 22) = true ∧
    decodes (Line.ofCode (0x16 :: 0x00 :: 0x04 :: 0x00 :: (dbBytes ++ [0x2D]))) (.setCDesiredDemand db .temperature (-23)) = true ∧
    decodes (Line.ofCode (0x16 :: 0x00 :: 0x04 :: 0x01 :: (dbBytes ++ [0x2C]))) (.setCDesiredDemand db .hzProxy 22) = true ∧
    decodes (Line.ofCode (0x16 :: 0x00 :: 0x05 :: (dbBytes ++ [0x10, 0x04]))) (.setCPumpMinFreq db (8 / 5)) = true ∧
    decodes (Line.ofCode (0x16 :: 0x00 :: 0x06 :: (dbBytes ++ [0x10, 0x04]))) (.setCPumpMaxFreq db (8 / 5)) = true ∧
    decodes (Line.ofCode (0x16 :: 0x00 :: 0x07 :: (dbBytes ++ [0x2C]))) (.setCFanMinRPM db 22) = true ∧
    decodes (Line.ofCode (0x16 :: 0x00 :: 0x09 :: (dbBytes ++ [0x2C]))) (.setCFanMaxRPM db 22) = true ∧
    decodes (Line.ofCode (0x16 :: 0x00 :: 0x0B :: (dbBytes ++ [0x10, 0x04]))) (.setCOperatingVoltage db (8 / 5)) = true ∧
    decodes (Line.ofCode (0x16 :: 0x00 :: 0x0C :: (dbBytes ++ [0x78]))) (.setCFanSensorSelect db 0x78) = true ∧
    decodes (Line.ofCode (0x16 :: 0x00 :: 0x0D :: (dbBytes ++ [0x78]))) (.setCOperatingMode db 0x78) = true ∧
    decodes (Line.ofCode (0x16 :: 0x00 :: 0x0E :: (dbBytes ++ [0x2C]))) (.setCMinTemperature db 22) = true ∧
    decodes (Line.ofCode (0x16 :: 0x00 :: 0x0F :: (dbBytes ++ [0x2C]))) (.setCMaxTemperature db 22) = true ∧
    decodes (Line.ofCode (0x16 :: 0x00 :: 0x10 :: (dbBytes ++ [0x78]))) (.setCGlowDrive db 0x78) = true ∧
    decodes (Line.ofCode (0x16 :: 0x00 :: 0x11 :: (dbBytes ++ [0x78]))) (.setCPrime db 0x78) = true ∧
    decodes (Line.ofCode (0x16 :: 0x00 :: 0x12 :: (dbBytes ++ [0x01, 0x2C, 0x0D, 0xAC]))) (.setCReserved db #v[0x01, 0x2C, 0x0D, 0xAC]) = true := by decide +kernel

theorem test_decode_set_heater :
    decodes (Line.ofCode (0x16 :: 0x01 :: 0x00 :: (dbBytes ++ [0x78]))) (.setHHeader db 0x78) = true ∧
    decodes (Line.ofCode (0x16 :: 0x01 :: 0x01 :: (dbBytes ++ [0x78]))) (.setHLength db 0x78) = true ∧
    decodes (Line.ofCode (0x16 :: 0x01 :: 0x02 :: (dbBytes ++ [0x78]))) (.setHRunState db 0x78) = true ∧
    decodes (Line.ofCode (0x16 :: 0x01 :: 0x03 :: (dbBytes ++ [0x78]))) (.setHErrState db 0x78) = true ∧
    decodes (Line.ofCode (0x16 :: 0x01 :: 0x04 :: (dbBytes ++ [0x10, 0x04]))) (.setHSupplyVoltage db (8 / 5)) = true ∧
    decodes (Line.ofCode (0x16 :: 0x01 :: 0x06 :: (dbBytes ++ [0x2C]))) (.setHFanRPM db 22) = true ∧
    decodes (Line.ofCode (0x16 :: 0x01 :: 0x08 :: (dbBytes ++ [0x10, 0x04]))) (.setHFanVoltage db (8 / 5)) = true ∧
    decodes (Line.ofCode (0x16 :: 0x01 :: 0x0A :: (dbBytes ++ [0x2C]))) (.setHHeatExchgTemp db 22) = true ∧
    decodes (Line.ofCode (0x16 :: 0x01 :: 0x0C :: (dbBytes ++ [0x10, 0x04]))) (.setHGlowVoltage db (8 / 5)) = true ∧
    decodes (Line.ofCode (0x16 :: 0x01 :: 0x0E :: (dbBytes ++ [0x10, 0x04]))) (.setHGlowCurrent db (8 / 5)) = true ∧
    decodes (Line.ofCode (0x16 :: 0x01 :: 0x10 :: (dbBytes ++ [0x10, 0x04]))) (.setHActualPumpFreq db (8 / 5)) = true ∧
    decodes (Line.ofCode (0x16 :: 0x01 :: 0x11 :: (dbBytes ++ [0x78]))) (.setHStoredErrorCode db 0x78) = true ∧
    decodes (Line.ofCode (0x16 :: 0x01 :: 0x12 :: (dbBytes ++ [0x01, 0x2C, 0x0D, 0xAC]))) (.setHReserved db #v[0x01, 0x2C, 0x0D, 0xAC]) = true := by decide +kernel

theorem test_decode_scheduler_composer :
    decodes (Line.ofCode [0x20, 0x05, 0x02, 0x94, 0x0A]) (.txConfig 5 2 1300) = true ∧
    decodes (Line.atTime [0x21] 901) (.txStart 901) = true ∧
    decodes (Line.atTime [0x22] 907) (.txCheck 907) = true ∧
    decodes (Line.withInp (0x23 :: (dbBytes ++ [0x01])) in1) (.prepareFrame db true in1) = true ∧
    decodes (Line.withInp (0x30 :: dbBytes) in1) (.composeDisabled db in1) = true ∧
    decodes (Line.withInp (0x31 :: dbBytes) in1) (.composeStandard db in1) = true ∧
    decodes (Line.withInp (0x32 :: dbBytes) in1) (.composeWindowed db in1) = true ∧
    decodes (Line.withInp (0x33 :: dbBytes) in1) (.composeLinearHz db in1) = true := by decide +kernel

theorem test_decode_fault_host :
    decodes (Line.ofCode [0x40, 0x06]) (.sfiUpdate 0x06) = true ∧
    decodes (Line.ofCode [0x41]) .sfiInhibit = true ∧
    decodes (Line.ofCode [0x42]) .sfiReset = true ∧
    decodes (Line.withInp (0x43 :: h2Payload) in1) (.checkVolts ⟨h2, .heater⟩ in1) = true ∧
    decodes (Line.ofCode [0x50, 0x01]) (.reqOn true) = true ∧
    decodes (Line.ofCode [0x51, 0x00]) (.reqOff false) = true ∧
    decodes (Line.ofCode [0x52, 0x5A]) (.reqRaw 0x5A) = true ∧
    decodes (Line.ofCode [0x58]) .rdOemFrame = true ∧
    decodes (Line.ofCode [0x59]) .rdHtrFrame = true ∧
    decodes (Line.ofCode [0x5A]) .rdFault = true ∧
    decodes (Line.ofCode [0x5B]) .rdStatus = true := by decide +kernel

theorem test_decode_refuses_by_name :
    refuses (Line.ofCode []) .empty = true ∧
    refuses (Line.ofCode [0x03]) (.unassigned 0x03) = true ∧
    refuses (Line.ofCode [0xFF]) (.unassigned 0xFF) = true ∧
    refuses (Line.ofCode [0x00]) .truncated = true ∧
    refuses (Line.ofCode (0x12 :: dbPayload)) .truncated = true ∧
    refuses (Line.ofCode [0x41, 0x00]) .trailing = true ∧
    refuses (Line.ofCode [0x50, 0x02]) (.badBool 0x02) = true ∧
    refuses (Line.ofCode [0x15, 0x02, 0x00]) (.badRole 0x02) = true ∧
    refuses (Line.ofCode (0x15 :: 0x00 :: 0x04 :: 0x02 :: dbPayload)) (.badView 0x02) = true ∧
    refuses (Line.ofCode (0x15 :: 0x00 :: 0x08 :: dbPayload)) (.noField .controller 0x08) = true ∧
    refuses (Line.ofCode (0x16 :: 0x01 :: 0x16 :: dbBytes)) (.noField .heater 0x16) = true ∧
    refuses ⟨.frame24 .heater, dbPayload, 0, Inp.zero⟩ .frameLength = true := by decide +kernel

theorem test_decodeTableWord : decodeTableWord 8 0x0F = some (.reset 0) ∧ decodeTableWord 8 0x5B = some .rdStatus ∧
    decodeTableWord 8 0x01 = some (.stepIdle 0 Inp.zero) ∧ decodeTableWord 8 0x03 = none ∧
    decodeTableWord 8 0x12 = some (.verifyCrc Raw.zero) := by decide +kernel

theorem test_withFetchWord_runs :
    (match step (State.reset.withFetchWord 8 0x5A) with
      | .next t => decide (t.result = .faults .none none ∧ t.script = [])
      | .fault _ => false
      | .refused _ => false) = true := by decide +kernel

/-! The checksum (R110 to R114; 95_test_vectors.md section 2.1 and E1). -/

theorem test_crc_vectors : crc16 [] = 0xFFFF ∧ crc16 [0x00] = 0x40BF ∧ crc16 [0x01] = 0x807E ∧ crc16 [0xFF] = 0x00FF ∧
    crc16 [0x76] = 0xA63E ∧ crc16 [0x76, 0x16] = 0x1EA6 ∧ crc16 (List.replicate 22 0xFF) = 0x8F15 ∧
    crc16 dbPayload = 0x4ED5 ∧ crc16 h2Payload = 0x61AB := by decide +kernel

theorem test_crc_table : crcTable 0 = 0x0000 ∧ crcTable 1 = 0xC0C1 ∧ crcTable 7 = 0xC241 ∧ crcTable 8 = 0xC601 ∧
    crcTable 0x89 = 0xA6C1 ∧ crcTable 128 = 0xA001 ∧ crcTable 200 = 0x9601 ∧ crcTable 255 = 0x4040 := by decide +kernel

theorem test_setCrc : gives (.setCrc (oem1bad.set 5 0x0E)) oem1 = true ∧ zeros[22] = 0x0B ∧ zeros[23] = 0x5B := by
  decide +kernel

theorem test_verifyCrc : answers (.verifyCrc db) (.bool true) = true ∧ answers (.verifyCrc oem1bad) (.bool false) = true ∧
    answers (.verifyCrc ((db.set 22 0xD5).set 23 0x4E)) (.bool false) = true ∧
    answers (.verifyCrc Raw.zero) (.bool false) = true ∧ answers (.verifyCrc zeros) (.bool true) = true := by
  decide +kernel

theorem test_parse : answers (.parse h2 .controller) (.parsed (some ⟨h2, .controller⟩)) = true ∧
    answers (.parse oem1bad .controller) (.parsed none) = true := by decide +kernel

/-! The accessors (95_test_vectors.md section 2.1). -/

/-- On OEM1. -/
theorem test_get_controller : (controllerGets ⟨oem1, .controller⟩).map (fun i => match exec i State.reset with
      | .next t => t.result
      | .fault _ => .none
      | .refused _ => .none) =
    [.byte 0x76, .byte 22, .byte 0, .degrees 19, .degrees 22, .physical (14 / 10), .physical (45 / 10), .count 1450,
      .count 4500, .physical 12, .byte 1, .byte 0x32, .count 8, .count 35, .byte 5, .byte 0,
      .quad #v[0x01, 0x2C, 0x0D, 0xAC], .crc 0x0A49] := by decide +kernel

/-- On H2. -/
theorem test_get_heater : (heaterGets ⟨h2, .heater⟩).map (fun i => match exec i State.reset with
      | .next t => t.result
      | .fault _ => .none
      | .refused _ => .none) =
    [.byte 0x76, .byte 22, .byte 2, .byte 1, .physical (125 / 10), .count 1650, .physical 8, .count 40,
      .physical (98 / 10), .physical 8, .physical 0, .byte 0, .quad #v[0, 0, 0, 0],
      .crc 0x61AB] := by decide +kernel

theorem test_set_rounding :
    gives (.setCPumpMinFreq db (16 / 10)) (db.set 5 0x10) = true ∧
    gives (.setCPumpMinFreq db (145 / 100)) (db.set 5 0x0F) = true ∧
    gives (.setCPumpMinFreq db (144 / 100)) (db.set 5 0x0E) = true ∧
    gives (.setCPumpMinFreq db (-5 / 100)) (db.set 5 0x00) = true ∧
    refusedFor (.setCPumpMinFreq db (-6 / 100)) State.reset .fieldRange = true ∧
    gives (.setCPumpMaxFreq db (255 / 10)) (db.set 6 0xFF) = true ∧
    refusedFor (.setCPumpMaxFreq db (2555 / 100)) State.reset .fieldRange = true ∧
    gives (.setCOperatingVoltage db 24) (db.set 11 0xF0) = true := by decide +kernel

theorem test_set_wide :
    gives (.setCFanMinRPM db 1680) ((db.set 7 0x06).set 8 0x90) = true ∧
    gives (.setCFanMaxRPM db 65535) ((db.set 9 0xFF).set 10 0xFF) = true ∧
    refusedFor (.setCFanMaxRPM db 65536) State.reset .fieldRange = true ∧
    gives (.setHGlowCurrent h5 8) ((h5.set 14 0x03).set 15 0x20) = true ∧
    gives (.setHSupplyVoltage h5 (125 / 10)) (h5.set 5 0x7D) = true := by decide +kernel

/-- The reset state with signed temperature bytes. -/
def signedState : State :=
  { State.reset with cfg := ⟨{ Cfg.tc1 with tempByteSigned := true }, by decide +kernel⟩ }

theorem test_set_temperature :
    gives (.setCActualTemperature db 255) (db.set 3 0xFF) = true ∧
    refusedFor (.setCActualTemperature db (-1)) State.reset .fieldRange = true ∧
    after (.setCActualTemperature db (-1)) signedState (fun t => decide (t.result = .raw (db.set 3 0xFF))) = true ∧
    refusedFor (.setCActualTemperature db 128) signedState .fieldRange = true ∧
    gives (.setCDesiredDemand db .hzProxy 255) (db.set 4 0xFF) = true := by decide +kernel

theorem test_layout : after (.frameHeater h4low) State.reset (fun t => match t.result with
      | .heaterFields (some v) => decide (v.runState = 4 ∧ v.supplyVoltage = 11 ∧ v.fanRPM = 3000 ∧ v.glowCurrent = 8 ∧
          v.actualPumpFreq = 24 / 10 ∧ v.crc = 0xD7F4)
      | _ => false) = true ∧
    answers (.frameController oem1bad) (.controllerFields none) = true := by decide +kernel

/-! Single passes: the rows of 95_test_vectors.md section 2.2, on TC1 and IN1. -/

/-- The reset state in another bus state, at a time. -/
def at_ (st : BusState) (tLast clock : Nat) : State :=
  { State.reset with st := st, tLast := tLast, clock := clock, configOpen := false }

/-- B1, B2. -/
theorem test_idle_promotes_above_silence :
    after (.stepIdle 900 in1) State.reset (fun t => decide (t.st = .idle ∧ t.txStart = none)) = true ∧
    after (.stepIdle 901 in1) State.reset (fun t => decide (t.st = .transmitSelf ∧ t.master = .self ∧ t.txBuf = m0 ∧
      t.txStart = some 901 ∧ t.pending = true ∧ t.events = [])) = true := by decide +kernel

/-- B3, B4, B5. -/
theorem test_idle_takes_a_byte_after_a_gap :
    after (.stepIdle 20 in1) { State.reset with rxFifo := [0x76] } (fun t => decide (t.st = .idle ∧ t.tLast = 20 ∧
      t.rxFifo = [])) = true ∧
    after (.stepIdle 21 in1) { State.reset with rxFifo := [0x76] } (fun t => decide (t.st = .observeMasterFrame ∧
      t.bufOEM[0] = 0x76 ∧ t.idx = 1)) = true ∧
    after (.stepIdle 950 in1) { State.reset with rxFifo := [0x76] } (fun t => decide (t.st = .observeMasterFrame ∧
      t.master = .none)) = true := by decide +kernel

/-- A state ten bytes into an OEM frame (B7). -/
def collecting10 : State := { at_ .observeMasterFrame 309 309 with idx := 10 }

/-- B6. -/
theorem test_collect_last_byte_wins :
    after (.stepObserveMasterFrame 400 in1) { at_ .observeMasterFrame 322 322 with idx := 23, rxFifo := [0x49] }
      (fun t => decide (t.st = .validateMasterFrame ∧ t.idx = 24 ∧ t.bufOEM[23] = 0x49 ∧ t.tLast = 400)) = true := by
  decide +kernel

/-- B7, B8, B27. -/
theorem test_collect_timeout :
    after (.stepObserveMasterFrame 329 in1) collecting10 (fun t => decide (t.st = .observeMasterFrame)) = true ∧
    after (.stepObserveMasterFrame 330 in1) collecting10 (fun t => decide (t.st = .housekeeping ∧ t.idx = 0 ∧
      t.recycleCount = 1 ∧ t.tLog = some 330 ∧
      t.events = [.logTimeout, .frameCollectionTimeout .observeMasterFrame 10, .recycle])) = true ∧
    after (.stepObserveMasterFrame 330 in1) { collecting10 with tLog := some 325 } (fun t => decide (t.tLog = some 325 ∧
      t.events = [.frameCollectionTimeout .observeMasterFrame 10, .recycle])) = true := by decide +kernel

/-- A state about to validate 24 bytes (B9 to B12). -/
def validating (x : Raw) : State := { at_ .validateMasterFrame 323 323 with idx := 24, bufOEM := x, master := .self }

/-- B9, B10, B11. -/
theorem test_validate_master_classifies :
    after (.stepValidateMasterFrame 324 in1) (validating oem1) (fun t => decide (t.st = .awaitHeaterReplyToMaster ∧
      t.pubOEM = some ⟨⟨oem1, .controller⟩, 324⟩ ∧ t.oemKind = .active ∧ t.master = .oem ∧ t.idx = 0)) = true ∧
    after (.stepValidateMasterFrame 324 in1) (validating oem2) (fun t => decide (t.oemKind = .passive)) = true ∧
    after (.stepValidateMasterFrame 324 in1) (validating zeros) (fun t => decide (t.oemKind = .unknown)) = true := by
  decide +kernel

/-- B12. -/
theorem test_validate_master_bad :
    after (.stepValidateMasterFrame 324 in1) (validating oem1bad) (fun t => decide (t.st = .housekeeping ∧
      t.master = .self ∧ t.pubOEM = none ∧ t.recycleCount = 1 ∧ t.events = [.frameCrcMismatch oem1bad, .recycle])) =
      true := by decide +kernel

/-- B14, B26. -/
theorem test_await_reply_to_master :
    after (.stepAwaitHeaterReplyToMaster 344 in1) { at_ .awaitHeaterReplyToMaster 323 343 with heaterResponding := true }
      (fun t => decide (t.st = .housekeeping ∧ t.heaterResponding = false)) = true ∧
    after (.stepAwaitHeaterReplyToMaster 344 in1) { at_ .awaitHeaterReplyToMaster 323 343 with
      idx := 5, rxFifo := [0xAA, 0xBB] } (fun t => decide (t.st = .awaitHeaterReplyToMaster ∧ t.idx = 6 ∧
      t.bufHM[5] = 0xAA ∧ t.rxFifo = [0xBB])) = true := by decide +kernel

/-- B15, B16. -/
theorem test_validate_reply_to_master :
    after (.stepValidateHeaterReplyToMaster 354 in1) { at_ .validateHeaterReplyToMaster 353 353 with
      bufHM := h5, cq := ⟨false, true, none⟩ } (fun t => decide (t.pubHtr = some ⟨⟨h5, .heater⟩, 354⟩ ∧
      t.heaterResponding = true ∧ t.sfi.prev = 5 ∧ t.cq.off = true ∧ t.tReport = 354 ∧ t.st = .reportMasterExchange)) =
      true ∧
    after (.stepValidateHeaterReplyToMaster 354 in1) { at_ .validateHeaterReplyToMaster 353 353 with
      bufHM := h5.set 23 0xC6, heaterResponding := true } (fun t => decide (t.pubHtr = none ∧
      t.heaterResponding = false ∧ t.sfi.prev = 0 ∧ t.st = .housekeeping)) = true := by decide +kernel

/-- The state of B17. -/
def reporting : State := { at_ .reportMasterExchange 353 354 with
  tReport := 354, master := .oem, pubOEM := some ⟨⟨oem1, .controller⟩, 324⟩, cq := ⟨false, true, none⟩ }

/-- B17, B18. -/
theorem test_report_parrots :
    after (.stepReportMasterExchange 355 in1) reporting (fun t => decide (t.txBuf = q2 ∧ t.txStart = some 355 ∧
      t.st = .transmitSelf ∧ t.master = .oem)) = true ∧
    after (.stepReportMasterExchange 356 in1) 
      { reporting with cfg := ⟨{ Cfg.tc1 with tReportDelay := 3 }, by decide +kernel⟩ }
      (fun t => decide (t.st = .reportMasterExchange)) = true := by decide +kernel

/-- The engine in its own cycle since 901, its frame written. -/
def transmitting : State := { at_ .transmitSelf 0 901 with
  master := .self, txBuf := m0, txStart := some 901, pending := true }

/-- B19, B20, on the state after the write. -/
theorem test_transmit_done_above_frame_time :
    after (.stepTransmitSelf 915 in1) { transmitting with pending := false, gate := true, rxFifo := [0x55] }
      (fun t => decide (t.st = .transmitSelf ∧ t.tLast = 915 ∧ t.gate = true ∧ t.rxFifo = [])) = true ∧
    after (.stepTransmitSelf 922 in1) { transmitting with pending := false, gate := true }
      (fun t => decide (t.st = .awaitHeaterReplyToSelf ∧ t.tLast = 922 ∧ t.gate = false ∧ t.txStart = none)) = true := by
  decide +kernel

/-- B21. -/
theorem test_await_reply_to_self :
    after (.stepAwaitHeaterReplyToSelf 942 in1) (at_ .awaitHeaterReplyToSelf 922 922)
      (fun t => decide (t.st = .awaitHeaterReplyToSelf)) = true ∧
    after (.stepAwaitHeaterReplyToSelf 943 in1) (at_ .awaitHeaterReplyToSelf 922 922)
      (fun t => decide (t.st = .housekeeping ∧
        t.events = [.logTimeout, .frameCollectionTimeout .awaitHeaterReplyToSelf 0, .recycle])) = true := by
  decide +kernel

/-- B22, and P6 at 949: both of fault inference, in order. -/
theorem test_validate_reply_to_self :
    after (.stepValidateHeaterReplyToSelf 949 in1) { at_ .validateHeaterReplyToSelf 948 948 with
      bufHS := h2, cq := ⟨true, false, none⟩ } (fun t => decide (t.pubHtr = some ⟨⟨h2, .heater⟩, 949⟩ ∧ t.sfi.prev = 2 ∧
      t.cq.on = false ∧ t.st = .reportSelfExchange)) = true ∧
    after (.stepValidateHeaterReplyToSelf 949 in1) { at_ .validateHeaterReplyToSelf 948 948 with
      cfg := cable (5 / 100) (by decide +kernel), bufHS := h4low, cq := ⟨true, false, none⟩ }
      (fun t => decide (t.sfi = ⟨4, .lowVolts, false⟩ ∧ t.cq = ⟨false, true, none⟩)) = true := by decide +kernel

/-- B23, B24. -/
theorem test_closing_states :
    after (.stepReportSelfExchange 950 in1) { at_ .reportSelfExchange 949 949 with rxFifo := [0xAA] }
      (fun t => decide (t.st = .housekeeping ∧ t.tLast = 950 ∧ t.rxFifo = [])) = true ∧
    after (.stepHousekeeping 951 in1) (at_ .housekeeping 949 950) (fun t => decide (t.st = .idle)) = true := by
  decide +kernel

/-! The scheduler and frame preparation (section 2.3). -/

theorem test_tx_config :
    after (.txConfig 0 0 1) State.reset (fun t => decide (t.cfg.tFrameTime = 1)) = true ∧
    faultsWith (.txConfig 20 2 14) State.reset .invalidConfig = true ∧
    faultsWith (.txConfig 5 2 7) State.reset .invalidConfig = true := by decide +kernel

/-- It runs once, before reset release (R180); what only answers a value leaves it open. -/
theorem test_tx_config_once :
    after (.txConfig 0 0 1) State.reset (fun t => refusedFor (.txConfig 5 2 20) t .configClosed) = true ∧
    after (.reset 0) State.reset (fun t => refusedFor (.txConfig 5 2 20) t .configClosed) = true ∧
    after (.busRx 0x76) State.reset (fun t => refusedFor (.txConfig 5 2 20) t .configClosed) = true ∧
    refusedFor (.txConfig 5 2 20) transmitting .configClosed = true ∧
    after (.crc16 [0x76]) State.reset (fun t => t.configOpen) = true := by decide +kernel

theorem test_tx_start :
    after (.txStart 0) State.reset (fun t => decide (t.txStart = some 0 ∧ t.pending = true ∧ t.fault = none)) = true ∧
    after (.txStart 905) transmitting (fun t => decide (t.txStart = some 901 ∧ t.fault = some .startWhileActive)) =
      true := by decide +kernel

/-- E8 at elapsed 5, 6, 7 and 8. -/
theorem test_tx_check_opens_and_writes :
    after (.txCheck 906) transmitting (fun t => decide (t.gate = false ∧ t.result = .tx .busy)) = true ∧
    after (.txCheck 907) transmitting (fun t => decide (t.gate = true ∧ t.pending = true ∧ t.events = [])) = true ∧
    after (.txCheck 908) transmitting (fun t => decide (t.pending = true)) = true ∧
    after (.txCheck 909) transmitting (fun t => decide (t.pending = false ∧ t.events = [.txWrite m0])) = true := by
  decide +kernel

/-- E8 at elapsed 20 and 21, the late call of R285, and the call without a cycle. -/
theorem test_tx_check_closes :
    after (.txCheck 921) transmitting (fun t => decide (t.gate = true ∧ t.result = .tx .busy)) = true ∧
    after (.txCheck 922) transmitting (fun t => decide (t.gate = false ∧ t.pending = false ∧ t.txStart = none ∧
      t.events = [.txWrite m0] ∧ t.result = .tx .done)) = true ∧
    after (.txCheck 7) State.reset (fun t => decide (t.fault = some .checkWithoutStart ∧ t.result = .tx .done)) = true := by
  decide +kernel

/-- M0 and Q3. -/
theorem test_prepare_frame :
    answers (.prepareFrame db true in1) (.prepared ⟨m0, .controller⟩) = true ∧
    after (.prepareFrame oem1 false in1) { State.reset with cq := ⟨true, false, some 0x5A⟩ }
      (fun t => decide (t.result = .prepared ⟨q3, .controller⟩ ∧ t.cq = ⟨true, false, none⟩)) = true := by decide +kernel

/-- M2, M3, M6. -/
theorem test_prepare_frame_methods :
    after (.prepareFrame db true { in1 with thermoEnable := false }) { State.reset with cq := ⟨false, true, none⟩ }
      (fun t => decide (t.result = .prepared ⟨#v[0x76, 0x16, 0x05, 0x00, 0x14, 0x10, 0x37, 0x06, 0x90, 0x11, 0x94, 0x78, 0x01, 0xCD, 0x08, 0x23, 0x05, 0x00, 0x01, 0x2C, 0x0D, 0xAC, 0x62, 0x7A], .controller⟩)) = true ∧
    answers (.prepareFrame db true { in1 with method := .linearHz, desired := 20, sensed := 41 / 2 })
      (.prepared ⟨#v[0x76, 0x16, 0x00, 0x00, 0x0F, 0x10, 0x37, 0x06, 0x90, 0x11, 0x94, 0x78, 0x01, 0xCD, 0x08, 0x23, 0x05, 0x00, 0x01, 0x2C, 0x0D, 0xAC, 0xD4, 0xC0], .controller⟩) = true ∧
    answers (.prepareFrame oem2 true in1) (.prepared ⟨#v[0x76, 0x16, 0x00, 0x13, 0x16, 0x10, 0x37, 0x06, 0x90, 0x11, 0x94, 0x78, 0x01, 0x32, 0x08, 0x23, 0x05, 0x5A, 0x01, 0x2C, 0x0D, 0xAC, 0xF1, 0x8A], .controller⟩) = true := by decide +kernel

/-! The composer (section 2.4, E6). -/

/-- The three bytes a case of the composer writes on DB. -/
def composes (i : Instr) (mode actual demand : Byte) : Bool := gives i (((db.set 13 mode).set 3 actual).set 4 demand)

theorem test_compose_disabled : composes (.composeDisabled db { in1 with fixedDemand := 0xFF }) 0xCD 0x00 0xFF = true := by
  decide +kernel

theorem test_compose_standard :
    composes (.composeStandard db in1) 0x32 0x13 0x16 = true ∧
    composes (.composeStandard db { in1 with sensed := 1849 / 100 }) 0x32 0x12 0x16 = true ∧
    composes (.composeStandard db { in1 with sensed := 2554 / 10 }) 0x32 0xFF 0x16 = true ∧
    composes (.composeStandard db { in1 with sensed := -1 / 2 }) 0x32 0x00 0x16 = true ∧
    refusedFor (.composeStandard db { in1 with sensed := 2555 / 10 }) State.reset .fieldRange = true ∧
    after (.composeStandard db { in1 with sensed := -6 / 10 }) signedState
      (fun t => decide (t.result = .raw (((db.set 13 0x32).set 3 0xFF).set 4 0x16))) = true := by decide +kernel

/-- IN1 with another window and sensed temperature. -/
def windowed (window sensed : ℚ) : Inp := { in1 with window := window, sensed := sensed }

theorem test_compose_windowed :
    composes (.composeWindowed db (windowed 2 (224 / 10))) 0x32 0x16 0x16 = true ∧
    composes (.composeWindowed db (windowed 2 23)) 0x32 0x17 0x16 = true ∧
    composes (.composeWindowed db (windowed 2 21)) 0x32 0x15 0x16 = true ∧
    composes (.composeWindowed db (windowed 2 (235 / 10))) 0x32 0x18 0x16 = true ∧
    composes (.composeWindowed db (windowed 4 (235 / 10))) 0x32 0x16 0x16 = true ∧
    composes (.composeWindowed db (windowed 0 22)) 0x32 0x16 0x16 = true ∧
    composes (.composeWindowed db (windowed 0 (225 / 10))) 0x32 0x17 0x16 = true := by decide +kernel

/-- IN1 with setpoint 20 and another sensed temperature (E6). -/
def linear (sensed : ℚ) : Inp := { in1 with desired := 20, sensed := sensed }

theorem test_compose_linearHz :
    composes (.composeLinearHz db (linear 21)) 0xCD 0x00 0x08 = true ∧
    composes (.composeLinearHz db (linear 20)) 0xCD 0x00 0x16 = true ∧
    composes (.composeLinearHz db (linear 10)) 0xCD 0x00 0x23 = true ∧
    refusedFor (.composeLinearHz db { in1 with window := 0 }) State.reset .composerDomain = true ∧
    refusedFor (.composeLinearHz (db.set 14 0x24) in1) State.reset .composerDomain = true := by decide +kernel

/-! Fault inference and the host (E5, sections 2.5 and 2.6). -/

/-- The reset state with a SmartErrorState and a CommandQueue. -/
def inferring (prev : Byte) (inhibited on off : Bool) : State :=
  { State.reset with sfi := ⟨prev, .none, inhibited⟩, cq := ⟨on, off, none⟩ }

theorem test_sfi_update_infers :
    after (.sfiUpdate 4) (inferring 2 false false false) (fun t => decide (t.sfi = ⟨4, .none, false⟩)) = true ∧
    after (.sfiUpdate 3) (inferring 2 false false false) (fun t => decide (t.sfi = ⟨3, .ignitionRetry, false⟩)) = true ∧
    after (.sfiUpdate 5) (inferring 2 false false false) (fun t => decide (t.sfi = ⟨5, .none, false⟩)) = true ∧
    after (.sfiUpdate 6) (inferring 2 false false false) (fun t => decide (t.sfi = ⟨6, .ignitionFail, false⟩)) = true ∧
    after (.sfiUpdate 6) (inferring 2 true false false) (fun t => decide (t.sfi = ⟨6, .none, true⟩)) = true ∧
    after (.sfiUpdate 2) (inferring 0 true false false) (fun t => decide (t.sfi = ⟨2, .none, false⟩)) = true := by
  decide +kernel

theorem test_sfi_update_cancels :
    after (.sfiUpdate 1) (inferring 0 false true false) (fun t => decide (t.cq.on = true)) = true ∧
    after (.sfiUpdate 2) (inferring 0 false true false) (fun t => decide (t.cq.on = false)) = true ∧
    after (.sfiUpdate 6) (inferring 2 false false true) (fun t => decide (t.cq.off = true)) = true ∧
    after (.sfiUpdate 7) (inferring 2 false false true) (fun t => decide (t.cq.off = false)) = true ∧
    after (.sfiUpdate 0) (inferring 2 false false true) (fun t => decide (t.cq.off = false)) = true := by decide +kernel

theorem test_sfi_controls :
    after .sfiInhibit (inferring 2 false true false) (fun t => decide (t.sfi = ⟨2, .none, true⟩ ∧ t.cq.on = true)) = true ∧
    after .sfiReset { State.reset with sfi := ⟨2, .lowVolts, true⟩ } (fun t => decide (t.sfi = ⟨2, .none, false⟩)) =
      true := by decide +kernel

/-- The worked example of R218. -/
theorem test_check_volts :
    after (.checkVolts ⟨h4low, .heater⟩ in1) { State.reset with cfg := cable (5 / 100) (by decide +kernel) }
      (fun t => decide (t.sfi.code = .lowVolts ∧ t.cq.off = true)) = true ∧
    after (.checkVolts ⟨h4low, .heater⟩ in1) { State.reset with cfg := cable (1 / 10) (by decide +kernel) }
      (fun t => decide (t.sfi.code = .none ∧ t.cq.off = false)) = true ∧
    faultsWith (.checkVolts ⟨oem1, .controller⟩ in1) State.reset .accessorOnUnvalidated = true := by decide +kernel

theorem test_requests :
    after (.reqOn true) (inferring 0 false false true) (fun t => decide (t.cq = ⟨true, false, none⟩)) = true ∧
    after (.reqOff true) (inferring 0 false true false) (fun t => decide (t.cq = ⟨false, true, none⟩)) = true ∧
    after (.reqOn false) (inferring 0 false false true) (fun t => decide (t.cq = ⟨false, true, none⟩)) = true ∧
    after (.reqRaw 0) { State.reset with cq := ⟨true, false, some 0x5A⟩ }
      (fun t => decide (t.cq = ⟨true, false, some 0⟩)) = true := by decide +kernel

theorem test_reads_at_reset :
    answers .rdOemFrame (.snapshot none) = true ∧ answers .rdHtrFrame (.snapshot none) = true ∧
    answers .rdFault (.faults .none none) = true ∧
    answers .rdStatus (.status ⟨.none, false, .none, 0, .idle, false, none⟩) = true := by decide +kernel

theorem test_bus_rx : after (.busRx 0x76) State.reset (fun t => decide (t.rxFifo = [0x76] ∧ t.st = .idle)) = true := by
  decide +kernel

theorem test_recycle_wraps : after .recycle { collecting10 with recycleCount := 0xFFFFFFFF, rxFifo := [1] }
    (fun t => decide (t.recycleCount = 0 ∧ t.rxFifo = [] ∧ t.idx = 0 ∧ t.st = .observeMasterFrame)) = true := by
  decide +kernel

theorem test_reset : after (.reset 7) transmitting (fun t => decide (t.st = .idle ∧ t.tLast = 7 ∧ t.tReport = 7 ∧
    t.txStart = none ∧ t.pending = false ∧ t.master = .none)) = true := by decide +kernel

/-! The numeric codes of R92, R93 and R255, and the levels of R258 to R260. -/

theorem test_codes : stateCode .housekeeping = 10 ∧ stateCode .transmitSelf = 6 ∧ masterCode .self = 2 ∧
    oemKindCode .unknown = 3 ∧ methodCode .linearHz = 2 ∧ inferredCodeNumber .lowVolts = 3 ∧
    eventErrorCode (.frameCrcMismatch db) = some 1 ∧ faultReasonCode .checkWithoutStart = 17 ∧
    faultCode .accessorOnUnvalidated = 19 ∧ faultCode .invalidConfig = 18 ∧ refusalCode .fieldRange = some 32 ∧
    refusalCode .composerDomain = some 33 ∧ refusalCode .timeRanBack = none ∧ statusErrors State.reset = [3] := by decide +kernel

/-! Witnesses: the hypotheses of each statement that has some, met together, clause by clause at the boundary values. -/

theorem decode_of_decodes {l : Line} {i : Instr} (h : decodes l i = true) : decode i.selector l = .ok i := by
  unfold decodes at h
  split at h
  · rename_i heq
    rw [heq, of_decide_eq_true h]
  · cases h

theorem witness_DecodeOfEncode : (Instr.getCDesiredDemand ⟨db, .controller⟩ .hzProxy).wellFormed = true ∧
    (Instr.serialize ⟨h2, .heater⟩).wellFormed = true ∧ (Instr.txConfig 0 127 128).wellFormed = true := by decide +kernel

theorem witness_DecodedOperationIsWellFormed :
    decode .idle (Line.ofCode (0x15 :: 0x01 :: 0x02 :: h2Payload)) = .ok (.getHRunState ⟨h2, .heater⟩) :=
  decode_of_decodes (i := .getHRunState ⟨h2, .heater⟩) (by decide +kernel)

/-- The reset state with one line pending. -/
def onePending : State := { State.reset with script := [Line.atTime [0x01] 901] }

theorem witness_StepRunsDecodedOperation : onePending.script = Line.atTime [0x01] 901 :: [] ∧
    decode onePending.st (Line.atTime [0x01] 901) = .ok (.stepIdle 901 Inp.zero) := ⟨rfl, rfl⟩

/-- The first and last bits that R114 names, with the frames of E1. -/
theorem witness_VerifyCrcOperation : (0 : Fin 24).val < 22 ∧ (21 : Fin 24).val < 22 ∧ (7 : Nat) < 8 ∧ setCrc db = db ∧
    crc16 (payload (flipBit db 0 7)) = 0x265D ∧ crc16 (payload (flipBit db 21 0)) = 0x8E14 := by decide +kernel

theorem witness_SerializeOperation : (⟨oem1, .controller⟩ : Frame).valid .controller = true ∧
    (⟨h2, .heater⟩ : Frame).valid .heater = true := by decide +kernel

theorem witness_UnvalidatedFrameStops : (Instr.getHRunState ⟨oem1bad, .heater⟩).wellFormed = false ∧
    (Instr.getHRunState ⟨h2, .controller⟩).wellFormed = false := by decide +kernel

theorem witness_ControllerByteFields : (⟨oem2, .controller⟩ : Frame).valid .controller = true := by decide +kernel

theorem witness_ControllerTemperatureFields : (⟨oem1, .controller⟩ : Frame).valid .controller = true ∧
    fitsDegrees false 0 ∧ fitsDegrees false 255 ∧ ¬ fitsDegrees false (-1) ∧ ¬ fitsDegrees false 256 ∧
    fitsDegrees true (-128) ∧ fitsDegrees true 127 ∧ ¬ fitsDegrees true (-129) ∧ ¬ fitsDegrees true 128 ∧
    fits8 0 ∧ fits8 255 ∧ ¬ fits8 (-1) ∧ ¬ fits8 256 := by
  unfold fitsDegrees fits8
  decide +kernel

theorem witness_ControllerScaledFields : (⟨oem1, .controller⟩ : Frame).valid .controller = true ∧
    fits8 ⌊(-5 / 100 : ℚ) * 10 + 1 / 2⌋ ∧ fits8 ⌊(255 / 10 : ℚ) * 10 + 1 / 2⌋ ∧
    ¬ fits8 ⌊(-6 / 100 : ℚ) * 10 + 1 / 2⌋ ∧ ¬ fits8 ⌊(2555 / 100 : ℚ) * 10 + 1 / 2⌋ := by
  unfold fits8
  decide +kernel

theorem witness_ControllerSpeedFields : (⟨oem1, .controller⟩ : Frame).valid .controller = true ∧
    fits16 0 ∧ fits16 65535 ∧ ¬ fits16 (-1) ∧ ¬ fits16 65536 := by
  unfold fits16
  decide +kernel

theorem witness_ControllerBoundsAndReserved : (⟨oem1, .controller⟩ : Frame).valid .controller = true ∧
    fits8 0 ∧ fits8 255 ∧ ¬ fits8 256 := by
  unfold fits8
  decide +kernel

theorem witness_HeaterByteFields : (⟨h2, .heater⟩ : Frame).valid .heater = true := by decide +kernel

theorem witness_HeaterScaledFields : (⟨h2, .heater⟩ : Frame).valid .heater = true ∧
    fits16 ⌊(65535 / 10 : ℚ) * 10 + 1 / 2⌋ ∧ ¬ fits16 ⌊(6553.6 : ℚ) * 10 + 1 / 2⌋ ∧
    fits16 ⌊(65535 / 100 : ℚ) * 100 + 1 / 2⌋ ∧ ¬ fits16 ⌊(655.36 : ℚ) * 100 + 1 / 2⌋ ∧
    fits8 ⌊(0 : ℚ) * 10 + 1 / 2⌋ ∧ ¬ fits8 ⌊(25.6 : ℚ) * 10 + 1 / 2⌋ := by
  unfold fits8 fits16
  decide +kernel

theorem witness_HeaterCountFields : (⟨h5, .heater⟩ : Frame).valid .heater = true ∧ fits16 0 ∧ fits16 65535 ∧
    ¬ fits16 65536 := by
  unfold fits16
  decide +kernel

theorem witness_FrameLayouts : verifyCrc h2 = true ∧ verifyCrc oem1bad = false := by decide +kernel

/-- The input record IN1 is in range on every basis with its temperature method. -/
theorem in1_inRange (basis : Raw) : inRange false basis in1 :=
  ⟨⟨by unfold fits8; decide +kernel, by unfold fits8; decide +kernel, by unfold fits8; decide +kernel,
    by unfold fits16; decide +kernel, by unfold fits16; decide +kernel⟩,
    fun _ => ⟨by unfold fitsDegrees; decide +kernel, by unfold fitsDegrees; decide +kernel⟩⟩

theorem in1_overflows_not_inRange : ¬ inRange false db { in1 with fanMax := 65536 } :=
  fun h => absurd h.1.2.2.2.2 (by unfold fits16; decide +kernel)

/-- One state for each clause: promotion at 901, not yet at 900, a byte after a gap of 21 and of 20; the basis both ways. -/
theorem witness_IdleRule : State.reset.st = .idle ∧ State.reset.clock ≤ 900 ∧ State.reset.rxFifo = [] ∧
    State.reset.txStart = none ∧ State.reset.cfg.tSilence < 901 - State.reset.tLast ∧
    900 - State.reset.tLast ≤ State.reset.cfg.tSilence ∧ State.reset.cfg.tData < 21 - State.reset.tLast ∧
    20 - State.reset.tLast ≤ State.reset.cfg.tData ∧
    inRange State.reset.cfg.tempByteSigned (selectBasis State.reset) in1 ∧ State.reset.pubOEM = none ∧
    ({ State.reset with rxFifo := [0x76] } : State).rxFifo = 0x76 :: [] ∧
    reporting.pubOEM = some ⟨⟨oem1, .controller⟩, 324⟩ :=
  ⟨rfl, by decide, rfl, rfl, by decide, by decide, by decide, by decide, in1_inRange _, rfl, rfl, rfl⟩

/-- The first and the last index, in each collecting state, and the last tick of the wait. -/
theorem witness_CollectingStoresOneByte :
    (at_ .observeMasterFrame 309 309).st = collectsIn .oem ∧ (at_ .awaitHeaterReplyToMaster 309 309).st = collectsIn .hm ∧
    (at_ .awaitHeaterReplyToSelf 309 309).st = collectsIn .hs ∧ (at_ .observeMasterFrame 309 309).clock ≤ 329 ∧
    (at_ .observeMasterFrame 309 309).idx < 24 ∧ ({ collecting10 with idx := 23 } : State).idx < 24 ∧
    ({ collecting10 with idx := 23, rxFifo := [0x49] } : State).rxFifo = 0x49 :: [] ∧ collecting10.rxFifo = [] ∧
    329 - collecting10.tLast ≤ collecting10.cfg.tData := by decide +kernel

/-- The first tick beyond the wait, with no log yet, with one ten ticks old and with one nine ticks old. -/
theorem witness_CollectionTimeout : collecting10.st = collectsIn .oem ∧ collecting10.clock ≤ 330 ∧
    collecting10.rxFifo = [] ∧ collecting10.cfg.tData < 330 - collecting10.tLast ∧ collecting10.tLog = none ∧
    ({ collecting10 with tLog := some 320 } : State).tLog = some 320 ∧ 320 + 10 ≤ 330 ∧
    ({ collecting10 with tLog := some 321 } : State).tLog = some 321 ∧ 330 < 321 + 10 := by decide +kernel

theorem witness_ValidateMasterFrame : (validating oem1).st = .validateMasterFrame ∧ (validating oem1).clock ≤ 324 ∧
    verifyCrc (validating oem1).bufOEM = true ∧ verifyCrc (validating oem1bad).bufOEM = false := by decide +kernel

/-- A heater reply about to be validated, in either exchange. -/
def replying (st : BusState) (x : Raw) : State := { at_ st 353 353 with idx := 24, bufHM := x, bufHS := x }

theorem witness_ValidateHeaterReplyToMaster :
    (replying .validateHeaterReplyToMaster h5).st = .validateHeaterReplyToMaster ∧
    (replying .validateHeaterReplyToMaster h5).clock ≤ 354 ∧
    verifyCrc (replying .validateHeaterReplyToMaster h5).bufHM = true ∧
    verifyCrc (replying .validateHeaterReplyToMaster oem1bad).bufHM = false := by decide +kernel

theorem witness_ValidateHeaterReplyToSelf :
    (replying .validateHeaterReplyToSelf h2).st = .validateHeaterReplyToSelf ∧
    (replying .validateHeaterReplyToSelf h2).clock ≤ 354 ∧
    verifyCrc (replying .validateHeaterReplyToSelf h2).bufHS = true ∧
    verifyCrc (replying .validateHeaterReplyToSelf oem1bad).bufHS = false := by decide +kernel

/-- No delay, and a delay of three ticks at its last tick before and its first after. -/
theorem witness_ReportMasterExchange : reporting.st = .reportMasterExchange ∧ reporting.clock ≤ 354 ∧
    reporting.pubOEM = some ⟨⟨oem1, .controller⟩, 324⟩ ∧ reporting.txStart = none ∧
    reporting.cfg.tReportDelay ≤ 354 - reporting.tReport ∧ 3 ≤ 357 - reporting.tReport ∧
    356 - reporting.tReport < 3 := by decide +kernel

theorem witness_TransmitSelfRule : transmitting.st = .transmitSelf ∧ transmitting.clock ≤ 921 ∧
    transmitting.txStart = some 901 ∧ 921 - 901 ≤ transmitting.cfg.tFrameTime ∧
    transmitting.cfg.tFrameTime < 922 - 901 := by decide +kernel

theorem witness_ClosingStates : (at_ .reportSelfExchange 949 949).clock ≤ 950 ∧
    (at_ .reportSelfExchange 949 949).st = .reportSelfExchange ∧ (at_ .housekeeping 949 950).clock ≤ 950 ∧
    (at_ .housekeeping 949 950).st = .housekeeping := by decide +kernel

theorem witness_PassNeedsItsStateAndItsTime : State.reset.st ≠ .housekeeping ∧ 900 < transmitting.clock := by
  decide +kernel

/-- The engine in its own cycle meets the engine's invariant. -/
theorem transmitting_inv : EngineInv transmitting where
  cfgValid := by decide +kernel
  openAtRest := by decide +kernel
  oneCommand := by decide +kernel
  pendingInCycle := by decide +kernel
  gateInCycle := by decide +kernel
  idxBound := by decide +kernel
  idxCollecting := by decide +kernel
  oemValid := by decide +kernel
  htrValid := by decide +kernel
  observed := by decide +kernel
  tLastPast := by decide +kernel
  tReportPast := by decide +kernel
  txStartPast := fun t h => by cases h; decide
  tLogPast := fun t h => by cases h
  cycleIffTransmit := by decide +kernel
  txFrame := by decide +kernel
  noFault := by decide +kernel

theorem witness_EveryPassCompletes : EngineInv transmitting ∧ transmitting.clock ≤ 901 ∧
    inRange transmitting.cfg.tempByteSigned (selectBasis transmitting) in1 :=
  ⟨transmitting_inv, by decide, in1_inRange _⟩

theorem witness_OnlyTheTablesMoves :
    (∃ t, exec (.stepTransmitSelf 922 in1) transmitting = .next t ∧
      (fun t : State => decide (t.st ≠ transmitting.st)) t = true) ∧
    ∃ t, exec (.reset 922) transmitting = .next t ∧ (fun t : State => decide (t.st ≠ transmitting.st)) t = true :=
  ⟨exists_of_after (by decide +kernel), exists_of_after (by decide +kernel)⟩

/-- The two cases of its conclusion: the rest of the FIFO stays, or a recycle empties it. -/
theorem witness_ByteWithoutBufferIsDropped :
    transmitting.st ≠ .idle ∧ collecting transmitting.st = false ∧
    (∃ t, exec (.stepTransmitSelf 902 in1) { transmitting with rxFifo := [0x55] } = .next t ∧
      (fun t : State => decide (t.rxFifo = [])) t = true) ∧
    ∃ t, exec (.stepValidateMasterFrame 324 in1) { validating oem1bad with rxFifo := [0x55, 0x56] } = .next t ∧
      (fun t : State => decide (t.rxFifo = [])) t = true :=
  ⟨by decide, by decide, exists_of_after (by decide +kernel), exists_of_after (by decide +kernel)⟩

/-- A state for each clause: a published reply, a byte stored in either heater buffer, a recycle. -/
theorem witness_ExchangeValidity :
    (∃ t, exec (.stepValidateHeaterReplyToSelf 354 in1) (replying .validateHeaterReplyToSelf h2) = .next t ∧
      (fun t : State => decide (t.pubHtr ≠ none)) t = true) ∧
    (∃ t, exec (.stepAwaitHeaterReplyToMaster 400 in1) { at_ .awaitHeaterReplyToMaster 323 400 with rxFifo := [0x76] } =
      .next t ∧ (fun t : State => decide (t.bufHM ≠ Raw.zero)) t = true) ∧
    (∃ t, exec (.stepAwaitHeaterReplyToSelf 400 in1) { at_ .awaitHeaterReplyToSelf 323 400 with rxFifo := [0x76] } =
      .next t ∧ (fun t : State => decide (t.bufHS ≠ Raw.zero)) t = true) ∧
    ∃ t, exec (.stepObserveMasterFrame 330 in1) collecting10 = .next t ∧
      (fun t : State => decide (Event.recycle ∈ t.events)) t = true :=
  ⟨exists_of_after (by decide +kernel), exists_of_after (by decide +kernel), exists_of_after (by decide +kernel),
    exists_of_after (by decide +kernel)⟩

theorem witness_ReturnToIdle : EngineInv transmitting ∧ transmitting.rxFifo = [] ∧
    [(922, in1), (943, in1), (964, in1), (985, in1), (1006, in1)].length = 5 ∧ longPause transmitting.cfg.toCfg = 21 ∧
    spaced (longPause transmitting.cfg.toCfg) transmitting.clock
      [(922, in1), (943, in1), (964, in1), (985, in1), (1006, in1)] :=
  ⟨transmitting_inv, rfl, rfl, rfl, by decide, by decide, by decide, by decide, by decide, trivial⟩

/-- A step has a next state. -/
def steps (s : State) : Bool :=
  match step s with
  | .next _ => true
  | .fault _ => false
  | .refused _ => false

theorem exists_of_steps {s : State} (h : steps s = true) : ∃ t, step s = .next t := by
  unfold steps at h
  split at h
  · exact ⟨_, ‹_›⟩
  · cases h
  · cases h

/-- Both sides of the strict comparison, in the state that takes `TX_CONFIG` and in one that refuses it, and each constraint of
a configuration at its edge. -/
theorem witness_TxConfigOperation : State.reset.configOpen = true ∧ 5 + 2 < 8 ∧ 7 ≤ 5 + 2 ∧
    transmitting.configOpen = false ∧ Cfg.tc1.tMargin ≤ Cfg.tc1.tFrameInterval ∧
    Cfg.tc1.tStartDelay + Cfg.tc1.tFrontPorch < Cfg.tc1.tFrameTime ∧ verifyCrc Cfg.tc1.defaultBasis = true ∧
    Cfg.tc1.defaultBasis[1] = 0x16 ∧ (0 : ℚ) ≤ Cfg.tc1.kCable ∧ Cfg.tc1.tFrameInterval < 1001 ∧
    verifyCrc oem1bad = false ∧ zeros[1] ≠ 0x16 ∧ (-1 / 100 : ℚ) < 0 := by decide +kernel

/-- `TX_CONFIG` changes the configuration where it may, another operation runs, and a step runs after reset release. -/
theorem witness_ConfigurationIsConstant :
    (∃ t, exec (.txConfig 0 0 1) State.reset = .next t ∧
      (fun t : State => decide (t.cfg ≠ State.reset.cfg)) t = true) ∧
    (∃ t, exec (.stepTransmitSelf 922 in1) transmitting = .next t ∧
      (fun t : State => decide (t.st = .awaitHeaterReplyToSelf)) t = true) ∧
    transmitting.configOpen = false ∧ ∃ t, step { transmitting with script := [Line.atTime [0x01] 922] } = .next t :=
  ⟨exists_of_after (by decide +kernel), exists_of_after (by decide +kernel), rfl, exists_of_steps (by decide +kernel)⟩

theorem witness_TxStartOperation : State.reset.clock ≤ 0 ∧ State.reset.txStart = none ∧ transmitting.clock ≤ 901 ∧
    transmitting.txStart = some 901 := by decide +kernel

theorem witness_TxCheckOperation : State.reset.clock ≤ 0 ∧ State.reset.txStart = none ∧ transmitting.clock ≤ 922 ∧
    transmitting.txStart = some 901 ∧ transmitting.pending = true := by decide +kernel

theorem witness_PrepareMasterFrame : inRange State.reset.cfg.tempByteSigned db in1 ∧
    ¬ inRange State.reset.cfg.tempByteSigned db { in1 with fanMax := 65536 } :=
  ⟨in1_inRange _, in1_overflows_not_inRange⟩

theorem witness_ComposeStandardOperation : fitsDegrees State.reset.cfg.tempByteSigned ⌊(2554 / 10 : ℚ) + 1 / 2⌋ ∧
    fitsDegrees State.reset.cfg.tempByteSigned ⌊in1.desired + 1 / 2⌋ ∧
    ¬ fitsDegrees State.reset.cfg.tempByteSigned ⌊(2555 / 10 : ℚ) + 1 / 2⌋ ∧
    ¬ fitsDegrees State.reset.cfg.tempByteSigned ⌊(-6 / 10 : ℚ) + 1 / 2⌋ := by
  unfold fitsDegrees
  decide +kernel

/-- The reported temperature of each branch, at the edges where branches meet: half a window away (22.5 with window 1), one
degree away (23), beyond (23.01), and a non-positive window at the setpoint. -/
theorem witness_ComposeWindowedOperation :
    (|(224 / 10 : ℚ) - 22| < 1 ∧ ⌊(22 : ℚ) + 1 / 2⌋ = 22) ∧
    ((1 / 2 : ℚ) ≤ |(225 / 10 : ℚ) - 22| ∧ |(225 / 10 : ℚ) - 22| ≤ 1 ∧ (22 : ℚ) < 225 / 10) ∧
    ((1 : ℚ) ≤ |(23 : ℚ) - 22| ∧ |(23 : ℚ) - 22| ≤ 1) ∧ ((1 : ℚ) ≤ |(21 : ℚ) - 22| ∧ (21 : ℚ) < 22) ∧
    ((0 : ℚ) ≤ |(22 : ℚ) - 22| ∧ |(22 : ℚ) - 22| ≤ 1) ∧
    (1 < |(2301 / 100 : ℚ) - 22| ∧ ⌊(2301 / 100 : ℚ) + 1 / 2⌋ = 23) ∧
    fitsDegrees false 0 ∧ fitsDegrees false 255 ∧ ¬ fitsDegrees false 256 := by
  refine ⟨⟨?_, ?_⟩, ⟨?_, ?_, ?_⟩, ⟨?_, ?_⟩, ⟨?_, ?_⟩, ⟨?_, ?_⟩, ⟨?_, ?_⟩, ?_, ?_, ?_⟩ <;>
    norm_num [fitsDegrees, abs_of_nonneg, abs_of_neg, Int.floor_eq_iff]

/-- A range of one value, the document's, and the two refusals. -/
theorem witness_ComposeLinearHzOperation : (0 : ℚ) < in1.window / 2 ∧ (db[14].toNat : ℚ) = 8 ∧ (db[15].toNat : ℚ) = 35 ∧
    (db[14].toNat : ℚ) ≤ db[15].toNat ∧ ((db.set 14 35)[14].toNat : ℚ) ≤ (db.set 14 35)[15].toNat ∧
    (0 : ℚ) / 2 ≤ 0 ∧ ((db.set 14 36)[15].toNat : ℚ) < (db.set 14 36)[14].toNat := by decide +kernel

/-- Every branch of step 1 has its state: from idle, from preheat, from preheat under the inhibit, from elsewhere. -/
theorem witness_SfiUpdateOperation : (inferring 0 true false false).sfi.prev = 0 ∧
    (inferring 2 false false false).sfi.inhibited = false ∧ (inferring 2 false false false).sfi.prev = 2 ∧
    (inferring 2 true false false).sfi.inhibited = true ∧ (inferring 4 false false false).sfi.prev ≠ 2 := by decide +kernel

/-- The compensated voltage just below a threshold, and at it. -/
theorem witness_CheckVoltsOperation : (⟨h4low, .heater⟩ : Frame).valid .heater = true ∧
    (wide h4low 4 5 : ℚ) / 10 + 0 * ((wide h4low 14 15 : ℚ) / 100) < 23 / 2 ∧
    (11 : ℚ) ≤ (wide h4low 4 5 : ℚ) / 10 + 0 * ((wide h4low 14 15 : ℚ) / 100) := by decide +kernel

theorem witness_HostCannotTouchTheEngine : byHost .sfiReset ∧ byHost (.reqOn true) ∧ byHost .rdStatus := by
  simp [byHost]

theorem witness_EveryStepKeepsInvariant : StateInv { transmitting with script := [Line.atTime [0x01] 922] } ∧
    ∃ t, step { transmitting with script := [Line.atTime [0x01] 922] } = .next t :=
  ⟨{ transmitting_inv.toStateInv with }, exists_of_steps (by decide +kernel)⟩

theorem witness_AgentsKeepEngineInvariant : byAgent (.stepTransmitSelf 922 in1) = true ∧ EngineInv transmitting ∧
    ∃ t, exec (.stepTransmitSelf 922 in1) transmitting = .next t ∧
      (fun t : State => decide (t.st = .awaitHeaterReplyToSelf)) t = true :=
  ⟨rfl, transmitting_inv, exists_of_after (by decide +kernel)⟩

/-- A write happens, and a state in flight stays in flight. -/
theorem witness_FrameInFlightIsFrozen : EngineInv transmitting ∧ transmitting.st = .transmitSelf ∧
    ∃ t, exec (.stepTransmitSelf 909 in1) transmitting = .next t ∧
      (fun t : State => decide (Event.txWrite m0 ∈ t.events)) t = true :=
  ⟨transmitting_inv, rfl, exists_of_after (by decide +kernel)⟩

theorem witness_MasterIsNeverRead : Instr.stepIdle 901 in1 ≠ .rdStatus := by simp

theorem witness_InputIsSampledOnlyWhereUsed : in1.lowVoltThreshold = (windowed 4 30).lowVoltThreshold ∧
    900 - State.reset.tLast ≤ State.reset.cfg.tSilence ∧ ({ State.reset with rxFifo := [0x76] } : State).rxFifo ≠ [] := by
  decide +kernel

end Sys2Proof.Tests
end

section
/-! PROOFS. `TX_CONFIG` and the construction of a configuration (00_scope.md R8, R10; 42_tx_scheduler.md R180;
60_exceptions.md R262). -/

namespace Sys2Proof.Machine

/-- `TX_CONFIG` as an operation is its meaning (R91). -/
theorem exec_txConfig (a b f : Nat) (s : State) : exec (.txConfig a b f) s = execTxConfig a b f s := rfl

/-- The constraints of R8, one by one. -/
theorem cfgValid_iff (c : Cfg) : c.valid = true ↔ c.tMargin ≤ c.tFrameInterval ∧
    c.tStartDelay + c.tFrontPorch < c.tFrameTime ∧ verifyCrc c.defaultBasis = true ∧
    c.defaultBasis[1] = 0x16#8 ∧ 0 ≤ c.kCable := by
  simp only [Cfg.valid, Bool.and_eq_true, decide_eq_true_eq, beq_iff_eq, and_assoc]

/-- A configuration that keeps every constraint is constructed, as it is (R10). -/
theorem construct_of_valid {c : Cfg} (h : c.valid = true) : ∃ v : ValidCfg, construct c = .ok v ∧ v.toCfg = c := by
  obtain ⟨-, hv⟩ | ⟨hf, -⟩ := construct_cases c
  · exact hv
  · exact absurd (h.symm.trans hf) (by decide)

/-- A configuration that breaks a constraint is rejected (R262 (c)). -/
theorem construct_of_not_valid {c : Cfg} (h : ¬ c.valid = true) : construct c = .error .invalidConfig := by
  obtain ⟨hv, -⟩ | ⟨-, he⟩ := construct_cases c
  · exact absurd hv h
  · exact he

/-- The three outcomes of `TX_CONFIG` exclude each other (R180). -/
theorem txConfig_outcomes (a b f : Nat) (s : State) :
    (s.configOpen = true → a + b < f → ∃ c : ValidCfg, c.toCfg = s.cfg.toCfg.withIntervals a b f ∧
      exec (.txConfig a b f) s = .next { fresh s with cfg := c }) ∧
    (s.configOpen = true → f ≤ a + b → exec (.txConfig a b f) s = .fault .invalidConfig) ∧
    (s.configOpen = false → exec (.txConfig a b f) s = .refused .configClosed) := by
  rw [exec_txConfig]
  obtain ⟨ho, hlt, hc⟩ | ⟨ho, hle, he⟩ | ⟨ho, he⟩ := execTxConfig_cases a b f s
  · exact ⟨fun _ _ => hc, fun _ hle => absurd hlt (Nat.not_lt.mpr hle), fun h => absurd (ho.symm.trans h) (by decide)⟩
  · exact ⟨fun _ hlt => absurd hlt (Nat.not_lt.mpr hle), fun _ _ => he, fun h => absurd (ho.symm.trans h) (by decide)⟩
  · exact ⟨fun h => absurd (ho.symm.trans h) (by decide), fun h => absurd (ho.symm.trans h) (by decide), fun _ => he⟩

/-- Settles O38, from the cases of `TX_CONFIG` and of `construct`. -/
theorem txConfigOperation : Obligations.TxConfigOperation := by
  refine ⟨txConfig_outcomes, fun c => ⟨fun h => construct_of_valid ((cfgValid_iff c).mpr h), fun hbroken => ?_⟩⟩
  refine construct_of_not_valid fun hv => ?_
  obtain ⟨hmargin, htime, hcrc, hlength, hcable⟩ := (cfgValid_iff c).mp hv
  obtain h | h | h | h | h := hbroken
  · exact absurd hmargin (Nat.not_le.mpr h)
  · exact absurd htime (Nat.not_lt.mpr h)
  · exact absurd (hcrc.symm.trans h) (by decide)
  · exact h hlength
  · exact absurd hcable (not_le.mpr h)

end Sys2Proof.Machine
end

section
/-! PROOFS. The invariants of the state (10_state.md R45; 00_scope.md R10, R11): every named update keeps `StateInv`, hence every
row of `STEP`, every operation and every step does. A proof names the clauses its update touches and takes the others as
they are. -/

namespace Sys2Proof.Machine

/-- Once the time of `TX_CONFIG` is over, the clause on it asks nothing (R180). -/
theorem openAtRest_of_closed {s : State} (ho : s.configOpen = false) :
    s.configOpen = true → s.st = .idle ∧ s.txStart = none :=
  fun h => absurd (ho.symm.trans h) (by decide)

/-! The updates every operation begins with (R41, R151, R152). -/

theorem answer_keeps_stateInv {s : State} (r : Result) (hs : StateInv s) : StateInv (answer r s) := { hs with }

/-- What is pending enters no invariant (entry 1). -/
theorem script_keeps_stateInv {s : State} (rest : List Line) (hs : StateInv s) : StateInv { s with script := rest } :=
  { hs with }

theorem fresh_keeps_stateInv {s : State} (hs : StateInv s) : StateInv (fresh s) := { hs with openAtRest := by simp }

/-- Time moves forward (R11). -/
theorem clock_keeps_stateInv {s : State} {now : Nat} (hs : StateInv s) (hc : s.clock ≤ now) :
    StateInv { s with clock := now } :=
  { hs with
    tLastPast := hs.tLastPast.trans hc
    tReportPast := hs.tReportPast.trans hc
    txStartPast := fun t h => (hs.txStartPast t h).trans hc
    tLogPast := fun t h => (hs.tLogPast t h).trans hc }

theorem afterPoll_keeps_stateInv {s : State} {now : Nat} (hs : StateInv s) (hc : s.clock ≤ now) :
    StateInv (afterPoll now s) :=
  { clock_keeps_stateInv (fresh_keeps_stateInv hs) hc with
    tLastPast := afterPoll_tLast_le hs.tLastPast hc }

/-- Reset release meets the invariants from any state (R44, R244). -/
theorem resetTo_stateInv (t0 : Nat) (s : State) : StateInv (resetTo t0 s) where
  cfgValid := s.cfg.isValid
  openAtRest := by simp
  oneCommand := by simp
  pendingInCycle := by simp
  gateInCycle := by simp
  idxBound := by simp
  idxCollecting := by simp
  oemValid := rfl
  htrValid := rfl
  observed := by simp [exchangeOpen]
  tLastPast := by simp
  tReportPast := by simp
  txStartPast := by simp
  tLogPast := by simp

/-! The command queue (R235 to R237, R215, R218, R183): no update leaves both On and Off. -/

theorem cq_keeps_stateInv {s : State} {q : CommandQueue} (hs : StateInv s) (hq : ¬ (q.on = true ∧ q.off = true)) :
    StateInv { s with cq := q } := { hs with oneCommand := hq }

theorem requestOn_oneCommand {v : Bool} {q : CommandQueue} : ¬ ((requestOn v q).on = true ∧ (requestOn v q).off = true) := by
  cases v <;> simp [requestOn]

theorem requestOff_oneCommand {v : Bool} {q : CommandQueue} :
    ¬ ((requestOff v q).on = true ∧ (requestOff v q).off = true) := by
  cases v <;> simp [requestOff]

theorem cancelTaken_oneCommand {next : Byte} {q : CommandQueue} (hq : ¬ (q.on = true ∧ q.off = true)) :
    ¬ ((cancelTaken next q).on = true ∧ (cancelTaken next q).off = true) := by
  rintro ⟨hon, hoff⟩
  simp only [cancelTaken, Bool.if_false_left, Bool.and_eq_true] at hon hoff
  exact hq ⟨hon.2, hoff.2⟩

theorem sfiUpdate_keeps_stateInv {s : State} (next : Byte) (hs : StateInv s) : StateInv (sfiUpdate next s) :=
  { hs with oneCommand := cancelTaken_oneCommand hs.oneCommand }

theorem checkVolts_keeps_stateInv {s : State} (x : Raw) (inp : Inp) (hs : StateInv s) :
    StateInv (checkVolts x inp s) := by
  unfold checkVolts
  split
  · exact { hs with oneCommand := requestOff_oneCommand }
  · exact hs

@[simp] theorem acceptReply_clock (f : Frame) (now : Nat) (inp : Inp) (s : State) :
    (acceptReply f now inp s).clock = s.clock := by simp [acceptReply_eq]
@[simp] theorem acceptReply_configOpen (f : Frame) (now : Nat) (inp : Inp) (s : State) :
    (acceptReply f now inp s).configOpen = s.configOpen := by simp [acceptReply_eq]
@[simp] theorem acceptReply_pubOEM (f : Frame) (now : Nat) (inp : Inp) (s : State) :
    (acceptReply f now inp s).pubOEM = s.pubOEM := by simp [acceptReply_eq]

theorem acceptReply_keeps_stateInv {s : State} {f : Frame} (now : Nat) (inp : Inp) (hs : StateInv s)
    (hf : f.valid .heater = true) : StateInv (acceptReply f now inp s) :=
  checkVolts_keeps_stateInv _ _ (sfiUpdate_keeps_stateInv _ { hs with htrValid := hf })

/-! The scheduler (R181, R182): pending and gate only in a cycle. -/

/-- A cycle begins no later than the latest time, once reset is released (R181). -/
theorem txStart_keeps_stateInv {s : State} {now : Nat} (hs : StateInv s) (ho : s.configOpen = false)
    (hc : s.clock = now) : StateInv (txStart now s) := by
  obtain ⟨-, he⟩ | ⟨-, he⟩ := txStart_cases now s
  · rw [he]
    exact { hs with
      openAtRest := openAtRest_of_closed ho
      pendingInCycle := fun _ => rfl
      gateInCycle := fun _ => rfl
      txStartPast := fun t h => by cases h; exact hc.ge }
  · rw [he]
    exact { hs with }

/-- A cycle that ends has written its frame: the frame time of a valid configuration is above the time of the write (R180,
R182). -/
theorem not_pending_after_frameTime (c : ValidCfg) {e : Nat} (h : c.tFrameTime < e) :
    ¬ e ≤ c.tStartDelay + c.tFrontPorch := by
  have hlt : c.tStartDelay + c.tFrontPorch < c.tFrameTime := ((cfgValid_iff c.toCfg).mp c.isValid).2.1
  omega

theorem txCheck_keeps_stateInv {s : State} (now : Nat) (hs : StateInv s) : StateInv (txCheck now s) := by
  cases htx : s.txStart with
  | none =>
    have he : txCheck now s = { s with fault := some .checkWithoutStart } := by simp [txCheck, htx]
    rw [he]
    exact { hs with }
  | some t =>
    rw [txCheck_eq htx]
    by_cases hend : s.cfg.tFrameTime < now - t
    · have hwritten := not_pending_after_frameTime s.cfg hend
      simp only [if_pos hend, decide_eq_false hwritten, Bool.and_false]
      exact { hs with
        openAtRest := fun h => ⟨(hs.openAtRest h).1, rfl⟩
        pendingInCycle := by simp
        gateInCycle := by simp
        txStartPast := by simp }
    · simp only [if_neg hend]
      exact { hs with
        openAtRest := fun h => absurd ((hs.openAtRest h).2.symm.trans htx) (by simp)
        pendingInCycle := fun _ => rfl
        gateInCycle := fun _ => rfl
        txStartPast := fun u h => hs.txStartPast u (htx.trans h) }

/-! The bus machine (R154 to R168): what a rule must show of the state it enters. -/

/-- A collecting state is entered with room in its buffer, and an open exchange with its OEM frame published. -/
theorem st_keeps_stateInv {s : State} {st : BusState} (hs : StateInv s) (ho : s.configOpen = false)
    (hidx : collecting st = true → s.idx < 24) (hobs : exchangeOpen st = true → s.pubOEM.isSome = true) :
    StateInv { s with st := st } :=
  { hs with
    openAtRest := openAtRest_of_closed ho
    idxCollecting := hidx
    observed := hobs }

theorem idx_keeps_stateInv {s : State} {i : Nat} (hs : StateInv s) (hb : i ≤ 24)
    (hc : collecting s.st = true → i < 24) : StateInv { s with idx := i } :=
  { hs with
    idxBound := hb
    idxCollecting := hc }

theorem recycle_keeps_stateInv {s : State} (hs : StateInv s) : StateInv (recycle s) :=
  { hs with
    idxBound := Nat.zero_le _
    idxCollecting := fun _ => Nat.zero_lt_succ _ }

theorem recover_keeps_stateInv {s : State} (w : Bool) (err : Event) (hs : StateInv s) (ho : s.configOpen = false) :
    StateInv (recover w err s) :=
  st_keeps_stateInv (s := recycle (emit err { s with heaterResponding := s.heaterResponding && !w }))
    (recycle_keeps_stateInv { hs with }) ho nofun nofun

theorem logTimeout_keeps_stateInv {s : State} {now : Nat} (hs : StateInv s) (hc : s.clock = now) :
    StateInv (logTimeout now s) := by
  obtain ⟨-, he⟩ | ⟨-, he⟩ := logTimeout_cases now s
  · rw [he]
    exact { hs with tLogPast := fun t h => by cases h; exact hc.ge }
  · rwa [he]

theorem timeout_keeps_stateInv {s : State} {now : Nat} (w : Bool) (hs : StateInv s) (ho : s.configOpen = false)
    (hc : s.clock = now) : StateInv (timeout w now s) :=
  recover_keeps_stateInv w _ (logTimeout_keeps_stateInv hs hc) (by simpa using ho)

theorem rxStore_keeps_stateInv {s : State} (w : RxBuf) (i : Nat) (b : Byte) (hs : StateInv s) :
    StateInv (rxStore w i b s) := by
  cases w <;> exact { hs with }

/-- One byte more keeps the buffer short of full, or leaves the collecting state (R153, R155). -/
theorem collect_keeps_stateInv {s : State} {next : BusState} {now : Nat} (w : RxBuf) (hw : Bool) (rx : Rx)
    (hs : StateInv s) (ho : s.configOpen = false) (hc : s.clock = now) (hcoll : collecting s.st = true)
    (hnext : collecting next = false) (hopen : exchangeOpen next = true → exchangeOpen s.st = true) :
    StateInv (collect w next hw now rx s) := by
  have hroom : s.idx < 24 := hs.idxCollecting hcoll
  match rx with
  | some (b, gap) =>
    rw [collect_byte]
    have hstored := rxStore_keeps_stateInv w s.idx b hs
    by_cases hfull : s.idx + 1 = 24
    · rw [if_pos hfull]
      exact { hstored with
        openAtRest := openAtRest_of_closed (by simpa using ho)
        idxBound := hroom
        idxCollecting := fun h => absurd (hnext.symm.trans h) (by decide)
        observed := fun h => by simpa using hs.observed (hopen h) }
    · rw [if_neg hfull]
      exact { hstored with
        openAtRest := openAtRest_of_closed (by simpa using ho)
        idxBound := hroom
        idxCollecting := fun _ => by dsimp only; omega
        observed := by simpa using hs.observed }
  | none =>
    by_cases hlate : s.cfg.tData < now - s.tLast
    · rw [collect_timeout hlate]
      exact timeout_keeps_stateInv hw hs ho hc
    · rw [collect_wait (Nat.not_lt.mp hlate)]
      exact hs

/-- A transmission begins a cycle and leaves the exchange (R157, R162). -/
theorem transmit_keeps_stateInv {s t : State} {basis : Raw} {m : Bool} {now : Nat} {inp : Inp} (hs : StateInv s)
    (ho : s.configOpen = false) (hc : s.clock = now) (h : transmit basis m now inp s = .next t) : StateInv t := by
  obtain ⟨f, -, rfl⟩ := transmit_next h
  have hloaded : StateInv { s with txBuf := f, cq := consumeRaw s.cq } := { hs with oneCommand := hs.oneCommand }
  exact st_keeps_stateInv (txStart_keeps_stateInv hloaded ho hc) (by simpa using ho) nofun
    nofun

/-! The rules of `STEP` (R157 to R168). -/

theorem idleRule_keeps_stateInv {s t : State} {now : Nat} {inp : Inp} {rx : Rx} (hs : StateInv s)
    (ho : s.configOpen = false) (hc : s.clock = now) (h : idleRule now inp rx s = .next t) : StateInv t := by
  unfold idleRule at h
  split at h
  case isTrue => exact transmit_keeps_stateInv (s := { s with master := .self }) { hs with } ho hc h
  case isFalse =>
    split at h
    next b gap =>
      split at h
      case isTrue =>
        cases h
        have hfirst := idx_keeps_stateInv (rxStore_keeps_stateInv .oem 0 b hs) (i := 1) (by decide) (fun _ => by decide)
        exact st_keeps_stateInv hfirst ho (fun _ => Nat.one_lt_succ_succ _) nofun
      case isFalse => cases h; exact hs
    next => cases h; exact hs

theorem validateMasterRule_keeps_stateInv {s : State} {now : Nat} (hs : StateInv s) (ho : s.configOpen = false) :
    StateInv (validateMasterRule now s) := by
  unfold validateMasterRule
  split
  next f hf =>
    exact { hs with
      openAtRest := openAtRest_of_closed ho
      idxBound := Nat.zero_le _
      idxCollecting := fun _ => Nat.zero_lt_succ _
      oemValid := valid_of_parse hf
      observed := fun _ => rfl }
  next => exact recover_keeps_stateInv _ _ hs ho

theorem validateReplyToMasterRule_keeps_stateInv {s : State} {now : Nat} {inp : Inp} (hs : StateInv s)
    (ho : s.configOpen = false) (hc : s.clock = now) (hopen : exchangeOpen s.st = true) :
    StateInv (validateReplyToMasterRule now inp s) := by
  unfold validateReplyToMasterRule
  split
  next f hf =>
    have haccepted := acceptReply_keeps_stateInv now inp hs (valid_of_parse hf)
    exact st_keeps_stateInv (s := { acceptReply f now inp s with tReport := now })
      { haccepted with tReportPast := by simp [hc] } (by simpa using ho) nofun
      (fun _ => by simpa using hs.observed hopen)
  next => exact recover_keeps_stateInv _ _ hs ho

theorem validateReplyToSelfRule_keeps_stateInv {s : State} {now : Nat} {inp : Inp} (hs : StateInv s)
    (ho : s.configOpen = false) : StateInv (validateReplyToSelfRule now inp s) := by
  unfold validateReplyToSelfRule
  split
  next f hf =>
    exact st_keeps_stateInv (acceptReply_keeps_stateInv now inp hs (valid_of_parse hf)) (by simpa using ho)
      nofun nofun
  next => exact recover_keeps_stateInv _ _ hs ho

theorem reportMasterRule_keeps_stateInv {s t : State} {now : Nat} {inp : Inp} (hs : StateInv s)
    (ho : s.configOpen = false) (hc : s.clock = now) (h : reportMasterRule now inp s = .next t) : StateInv t := by
  unfold reportMasterRule at h
  split at h
  case isTrue =>
    split at h
    next => exact transmit_keeps_stateInv hs ho hc h
    next => cases h
  case isFalse => cases h; exact hs

theorem transmitSelfRule_keeps_stateInv {s : State} {now : Nat} (hs : StateInv s) (ho : s.configOpen = false)
    (hc : s.clock = now) : StateInv (transmitSelfRule now s) := by
  have hchecked := txCheck_keeps_stateInv now hs
  unfold transmitSelfRule
  split
  case h_1 =>
    exact { hchecked with
      openAtRest := openAtRest_of_closed (by simpa using ho)
      idxBound := Nat.zero_le _
      idxCollecting := fun _ => Nat.zero_lt_succ _
      observed := nofun
      tLastPast := by simp [hc] }
  case h_2 => exact hchecked

/-- Every rule keeps the invariants, on the state its pass leaves after the poll phase. -/
theorem rowRule_keeps_stateInv {s t : State} {row : BusState} {now : Nat} {inp : Inp} {rx : Rx} (hs : StateInv s)
    (hst : s.st = row) (ho : s.configOpen = false) (hc : s.clock = now) (h : rowRule row now inp rx s = .next t) :
    StateInv t := by
  cases row with
  | idle => exact idleRule_keeps_stateInv hs ho hc h
  | observeMasterFrame =>
    cases h
    exact collect_keeps_stateInv _ _ _ hs ho hc (by rw [hst]; rfl) rfl nofun
  | validateMasterFrame => cases h; exact validateMasterRule_keeps_stateInv hs ho
  | awaitHeaterReplyToMaster =>
    cases h
    exact collect_keeps_stateInv _ _ _ hs ho hc (by rw [hst]; rfl) rfl (fun _ => by rw [hst]; rfl)
  | validateHeaterReplyToMaster =>
    cases h
    exact validateReplyToMasterRule_keeps_stateInv hs ho hc (by rw [hst]; rfl)
  | reportMasterExchange => exact reportMasterRule_keeps_stateInv hs ho hc h
  | transmitSelf => cases h; exact transmitSelfRule_keeps_stateInv hs ho hc
  | awaitHeaterReplyToSelf =>
    cases h
    exact collect_keeps_stateInv _ _ _ hs ho hc (by rw [hst]; rfl) rfl nofun
  | validateHeaterReplyToSelf => cases h; exact validateReplyToSelfRule_keeps_stateInv hs ho
  | reportSelfExchange => cases h; exact st_keeps_stateInv hs ho nofun nofun
  | housekeeping => cases h; exact st_keeps_stateInv hs ho nofun nofun

/-! Every operation and every step (R45). -/

theorem exec_keeps_stateInv {i : Instr} {s t : State} (hs : StateInv s) (h : exec i s = .next t) : StateInv t := by
  have hfresh := fresh_keeps_stateInv hs
  cases exec_did h with
  | answered r _ ht => exact ht ▸ answer_keeps_stateInv r hs
  | passed now inp _ hc hr =>
    exact rowRule_keeps_stateInv (afterPoll_keeps_stateInv hs hc) rfl rfl rfl hr
  | received b _ ht => exact ht ▸ { hfresh with }
  | recycled _ ht => exact ht ▸ recycle_keeps_stateInv hfresh
  | wasReset t0 _ ht => exact ht ▸ resetTo_stateInv t0 s
  | configured _ _ _ c _ _ _ _ ht => exact ht ▸ { hfresh with cfgValid := c.isValid }
  | started now _ hc ht => exact ht ▸ txStart_keeps_stateInv (clock_keeps_stateInv hfresh hc) rfl rfl
  | checked now _ hc ht =>
    have hchecked := txCheck_keeps_stateInv now (clock_keeps_stateInv hfresh hc)
    exact ht ▸ { hchecked with }
  | prepared _ _ _ _ _ _ ht => exact ht ▸ { hfresh with oneCommand := hs.oneCommand }
  | inferred next _ ht => exact ht ▸ sfiUpdate_keeps_stateInv next hfresh
  | volted f inp _ ht => exact ht ▸ checkVolts_keeps_stateInv f.bytes inp hfresh
  | controlled _ _ ht => exact ht ▸ { hfresh with }
  | requested q hi ht =>
    have hq : ¬ (q.on = true ∧ q.off = true) := by
      obtain ⟨v, -, rfl⟩ | ⟨v, -, rfl⟩ | ⟨b, -, rfl⟩ := hi
      · exact requestOn_oneCommand
      · exact requestOff_oneCommand
      · exact hs.oneCommand
    exact ht ▸ cq_keeps_stateInv hfresh hq

/-- A fetch takes one line off the script and nothing else (entry 1). -/
theorem fetch_some {s s' : State} {d : Except DecodeError Instr} (h : fetch s = some (d, s')) :
    ∃ l rest, s.script = l :: rest ∧ d = decode s.st l ∧ s' = { s with script := rest } := by
  unfold fetch at h
  split at h
  · cases h
  · cases h
    exact ⟨_, _, ‹_›, rfl, rfl⟩

/-- A step that answers a next state found nothing pending, or ran the operation it fetched (U24, R91). -/
theorem step_next {s t : State} (h : step s = .next t) :
    t = s ∨ ∃ i s', fetch s = some (.ok i, s') ∧ exec i s' = .next t := by
  unfold step at h
  split at h
  · exact .inl (Host.Outcome.next.inj h).symm
  · cases h
  · exact .inr ⟨_, _, ‹_›, h⟩

/-- Settles O55: a step is one operation on the state without its line, and every operation keeps the invariants. -/
theorem everyStepKeepsInvariant : Obligations.EveryStepKeepsInvariant := by
  intro s t hs h
  obtain rfl | ⟨i, s', hfetch, hexec⟩ := step_next h
  · exact hs
  · obtain ⟨l, rest, -, -, rfl⟩ := fetch_some hfetch
    exact exec_keeps_stateInv (script_keeps_stateInv rest hs) hexec

end Sys2Proof.Machine
end

section
/-! PROOFS. The state as a whole (10_state.md R20, R39, R40, R44, R45): reset, one step, what a rule of `STEP` does to the
state register and to the cycle in flight, and from it the moves of R170, the constant configuration and the engine's
invariants; and what a pass reads of its input record. -/

namespace Sys2Proof.Machine

/-! Reset and one step (R20, R44, R68, R244). -/

/-- The next line of the script is fetched and decoded in the present state (R68; entry 1). -/
theorem fetch_cons {s : State} {l : Line} {rest : List Line} (h : s.script = l :: rest) :
    fetch s = some (decode s.st l, { s with script := rest }) := by
  simp only [fetch, h]

/-- Settles O3: the fetch takes the line off, and the step runs what it decoded to. -/
theorem stepRunsDecodedOperation : Obligations.StepRunsDecodedOperation := by
  intro s l rest i hscript hdecode
  have hfetch : fetch s = some (.ok i, { s with script := rest }) := hdecode ▸ fetch_cons hscript
  simp only [step, hfetch]

/-- `RESET` as an operation always completes (R244). -/
theorem exec_reset (t0 : Nat) (s : State) : exec (.reset t0) s = .next (resetTo t0 s) := rfl

/-- Settles O52, element by element of R44. -/
theorem resetOperation : Obligations.ResetOperation := by
  intro t0 s
  refine ⟨resetTo t0 s, exec_reset t0 s, ?_⟩
  simp

/-- Right after reset no cycle is in flight (R44, R45 (d)). -/
theorem resetTo_engineInv (t0 : Nat) (s : State) : EngineInv (resetTo t0 s) :=
  { resetTo_stateInv t0 s with
    cycleIffTransmit := by simp
    txFrame := nofun
    noFault := rfl }

/-- `State.reset` is a reset at time 0 but for `TX_CONFIG`, which may still run (R44; entries 5 and 31). -/
theorem reset_eq_resetTo : State.reset = { resetTo 0 State.reset with configOpen := true } := rfl

/-- Settles O54: what a reset establishes, with the engine at rest while `TX_CONFIG` may still run. -/
theorem resetSatisfiesInvariants : Obligations.ResetSatisfiesInvariants := by
  unfold Obligations.ResetSatisfiesInvariants
  rw [reset_eq_resetTo]
  exact { resetTo_engineInv 0 State.reset with openAtRest := fun _ => ⟨rfl, rfl⟩ }

/-! What a rule of `STEP` does to the state register, the scheduler and the configuration (R157 to R168, R170). -/

/-- Nothing of the scheduler and of the configuration differs between two states. -/
structure KeepsScheduler (s t : State) : Prop where
  cfg : t.cfg = s.cfg
  configOpen : t.configOpen = s.configOpen
  txStart : t.txStart = s.txStart
  fault : t.fault = s.fault

/-- What a rule did, seen from the scheduler. -/
inductive RuleDid (now : Nat) (s t : State) : Prop where
  /-- Outside a cycle it stayed or moved by R170, and began none. -/
  | kept (hself : s.st ≠ .transmitSelf) (hk : KeepsScheduler s t)
      (hmove : t.st = s.st ∨ (transition s.st t.st = true ∧ t.st ≠ .transmitSelf))
  /-- Outside a cycle it began one, with a verified frame (R157, R162). -/
  | began (m : BusMaster) (f : Raw) (hself : s.st ≠ .transmitSelf) (hf : verifyCrc f = true)
      (hmove : transition s.st .transmitSelf = true)
      (ht : t = { txStart now { s with master := m, txBuf := f, cq := consumeRaw s.cq } with st := .transmitSelf })
  /-- It checked the cycle in flight (R164). -/
  | checked (hself : s.st = .transmitSelf) (ht : t = transmitSelfRule now s)

theorem RuleDid.unchanged {now : Nat} {s : State} (hself : s.st ≠ .transmitSelf) : RuleDid now s s :=
  .kept hself ⟨rfl, rfl, rfl, rfl⟩ (.inl rfl)

theorem RuleDid.moved {now : Nat} {s t : State} (hself : s.st ≠ .transmitSelf) (hk : KeepsScheduler s t)
    (hmove : transition s.st t.st = true) (ht : t.st ≠ .transmitSelf) : RuleDid now s t :=
  .kept hself hk (.inr ⟨hmove, ht⟩)

theorem recover_keepsScheduler (w : Bool) (err : Event) (s : State) : KeepsScheduler s (recover w err s) :=
  ⟨rfl, rfl, rfl, rfl⟩

theorem timeout_keepsScheduler (w : Bool) (now : Nat) (s : State) : KeepsScheduler s (timeout w now s) :=
  ⟨timeout_cfg w now s, timeout_configOpen w now s, timeout_txStart w now s, timeout_fault w now s⟩

theorem acceptReply_keepsScheduler (f : Frame) (now : Nat) (inp : Inp) (s : State) :
    KeepsScheduler s (acceptReply f now inp s) := by
  constructor <;> simp [acceptReply_eq]

theorem recover_did {now : Nat} {w : Bool} {err : Event} {s : State} (hself : s.st ≠ .transmitSelf)
    (hfail : transition s.st .housekeeping = true) : RuleDid now s (recover w err s) :=
  .moved hself (recover_keepsScheduler w err s) hfail nofun

/-- Collection stays, completes, or gives up (R155, R156). -/
theorem collect_did {w : RxBuf} {next : BusState} {hw : Bool} {now : Nat} {rx : Rx} {s : State}
    (hself : s.st ≠ .transmitSelf) (hdone : transition s.st next = true) (hnext : next ≠ .transmitSelf)
    (hfail : transition s.st .housekeeping = true) : RuleDid now s (collect w next hw now rx s) := by
  match rx with
  | some (b, gap) =>
    rw [collect_byte]
    by_cases hfull : s.idx + 1 = 24
    · rw [if_pos hfull]
      exact .moved hself (by constructor <;> simp) hdone hnext
    · rw [if_neg hfull]
      exact .kept hself (by constructor <;> simp) (.inl rfl)
  | none =>
    by_cases hlate : s.cfg.tData < now - s.tLast
    · rw [collect_timeout hlate]
      exact .moved hself (timeout_keepsScheduler hw now s) hfail nofun
    · rw [collect_wait (Nat.not_lt.mp hlate)]
      exact .unchanged hself

theorem idleRule_did {now : Nat} {inp : Inp} {rx : Rx} {s t : State} (hst : s.st = .idle)
    (h : idleRule now inp rx s = .next t) : RuleDid now s t := by
  have hself : s.st ≠ .transmitSelf := by simp [hst]
  unfold idleRule at h
  split at h
  case isTrue =>
    obtain ⟨f, hf, rfl⟩ := transmit_next h
    exact .began .self f hself (prepareFrame_verifies hf) (by rw [hst]; rfl) rfl
  case isFalse =>
    split at h
    next b gap =>
      split at h
      case isTrue =>
        cases h
        exact .moved hself ⟨rfl, rfl, rfl, rfl⟩ (by rw [hst]; rfl) nofun
      case isFalse => cases h; exact .unchanged hself
    next => cases h; exact .unchanged hself

theorem reportMasterRule_did {now : Nat} {inp : Inp} {s t : State} (hst : s.st = .reportMasterExchange)
    (h : reportMasterRule now inp s = .next t) : RuleDid now s t := by
  have hself : s.st ≠ .transmitSelf := by simp [hst]
  unfold reportMasterRule at h
  split at h
  case isTrue =>
    split at h
    next =>
      obtain ⟨f, hf, rfl⟩ := transmit_next h
      exact .began s.master f hself (prepareFrame_verifies hf) (by rw [hst]; rfl) rfl
    next => cases h
  case isFalse => cases h; exact .unchanged hself

theorem validateMasterRule_did {now : Nat} {s : State} (hst : s.st = .validateMasterFrame) :
    RuleDid now s (validateMasterRule now s) := by
  have hself : s.st ≠ .transmitSelf := by simp [hst]
  unfold validateMasterRule
  split
  · exact .moved hself ⟨rfl, rfl, rfl, rfl⟩ (by rw [hst]; rfl) nofun
  · exact recover_did hself (by rw [hst]; rfl)

theorem validateReplyToMasterRule_did {now : Nat} {inp : Inp} {s : State} (hst : s.st = .validateHeaterReplyToMaster) :
    RuleDid now s (validateReplyToMasterRule now inp s) := by
  have hself : s.st ≠ .transmitSelf := by simp [hst]
  unfold validateReplyToMasterRule
  split
  next f _ =>
    exact .moved hself { acceptReply_keepsScheduler f now inp s with } (by rw [hst]; rfl) nofun
  next => exact recover_did hself (by rw [hst]; rfl)

theorem validateReplyToSelfRule_did {now : Nat} {inp : Inp} {s : State} (hst : s.st = .validateHeaterReplyToSelf) :
    RuleDid now s (validateReplyToSelfRule now inp s) := by
  have hself : s.st ≠ .transmitSelf := by simp [hst]
  unfold validateReplyToSelfRule
  split
  next f _ =>
    exact .moved hself { acceptReply_keepsScheduler f now inp s with } (by rw [hst]; rfl) nofun
  next => exact recover_did hself (by rw [hst]; rfl)

/-- Every rule, in the state that selects it, did one of these. -/
theorem rowRule_did {now : Nat} {inp : Inp} {rx : Rx} {row : BusState} {s t : State} (hst : s.st = row)
    (h : rowRule row now inp rx s = .next t) : RuleDid now s t := by
  have hself : row ≠ .transmitSelf → s.st ≠ .transmitSelf := fun hne => hst ▸ hne
  cases row with
  | idle => exact idleRule_did hst h
  | observeMasterFrame =>
    cases h
    exact collect_did (hself nofun) (by rw [hst]; rfl) nofun (by rw [hst]; rfl)
  | validateMasterFrame => cases h; exact validateMasterRule_did hst
  | awaitHeaterReplyToMaster =>
    cases h
    exact collect_did (hself nofun) (by rw [hst]; rfl) nofun (by rw [hst]; rfl)
  | validateHeaterReplyToMaster => cases h; exact validateReplyToMasterRule_did hst
  | reportMasterExchange => exact reportMasterRule_did hst h
  | transmitSelf => cases h; exact .checked hst rfl
  | awaitHeaterReplyToSelf =>
    cases h
    exact collect_did (hself nofun) (by rw [hst]; rfl) nofun (by rw [hst]; rfl)
  | validateHeaterReplyToSelf => cases h; exact validateReplyToSelfRule_did hst
  | reportSelfExchange =>
    cases h
    exact .moved (hself nofun) ⟨rfl, rfl, rfl, rfl⟩ (by rw [hst]; rfl) nofun
  | housekeeping =>
    cases h
    exact .moved (hself nofun) ⟨rfl, rfl, rfl, rfl⟩ (by rw [hst]; rfl) nofun

/-- A pass did what its rule did, on the state after the poll phase (R151). -/
theorem pass_did {now : Nat} {inp : Inp} {s t : State}
    (h : rowRule s.st now inp (polled now s) (afterPoll now s) = .next t) : RuleDid now (afterPoll now s) t :=
  rowRule_did (afterPoll_st now s) h

/-- The cycle is checked, and its end opens the wait for the heater's reply (R164). -/
theorem transmitSelfRule_cases (now : Nat) (s : State) :
    (txProgress now s = .done ∧
      transmitSelfRule now s = { txCheck now s with tLast := now, idx := 0, st := .awaitHeaterReplyToSelf }) ∨
    (txProgress now s = .busy ∧ transmitSelfRule now s = txCheck now s) := by
  unfold transmitSelfRule
  cases h : txProgress now s
  · exact .inr ⟨rfl, rfl⟩
  · exact .inl ⟨rfl, rfl⟩

/-- A rule leaves the state register or moves it by the table (R170). -/
theorem RuleDid.st_cases {now : Nat} {s t : State} (h : RuleDid now s t) :
    t.st = s.st ∨ transition s.st t.st = true := by
  cases h with
  | kept _ _ hmove => exact hmove.imp_right And.left
  | began m f _ _ hmove ht => exact .inr (ht ▸ hmove)
  | checked hself ht =>
    obtain ⟨-, he⟩ | ⟨-, he⟩ := transmitSelfRule_cases now s
    · exact .inr (by rw [ht, he, hself]; rfl)
    · exact .inl (by rw [ht, he, txCheck_st])

/-- No rule touches the configuration or whether `TX_CONFIG` may run (R39). -/
theorem RuleDid.config_eq {now : Nat} {s t : State} (h : RuleDid now s t) :
    t.cfg = s.cfg ∧ t.configOpen = s.configOpen := by
  cases h with
  | kept _ hk _ => exact ⟨hk.cfg, hk.configOpen⟩
  | began m f _ _ _ ht => subst ht; simp
  | checked _ ht =>
    obtain ⟨-, he⟩ | ⟨-, he⟩ := transmitSelfRule_cases now s <;>
    · rw [ht, he]
      simp

/-! The moves of the state register (R24, R151, R170). -/

/-- An operation leaves the state register, or is a pass that moves it by the table, or is a reset. -/
theorem exec_st_cases {i : Instr} {s t : State} (h : exec i s = .next t) :
    t.st = s.st ∨ ((∃ now inp, i = stepRow s.st now inp) ∧ transition s.st t.st = true) ∨
      ((∃ t0, i = .reset t0) ∧ t.st = .idle) := by
  cases exec_did h with
  | passed now inp hi _ hr =>
    exact (pass_did hr).st_cases.imp_right fun hmove => .inl ⟨⟨now, inp, hi⟩, hmove⟩
  | wasReset t0 hi ht => exact .inr (.inr ⟨⟨t0, hi⟩, by rw [ht, resetTo_st]⟩)
  | answered _ _ ht | received _ _ ht | recycled _ ht | configured _ _ _ _ _ _ _ _ ht | prepared _ _ _ _ _ _ ht
  | inferred _ _ ht | controlled _ _ ht | requested _ _ ht => exact .inl (by rw [ht]; rfl)
  | started _ _ _ ht | checked _ _ _ ht | volted _ _ _ ht => exact .inl (by simp [ht])

/-- Settles O34: of the three things an operation can do to the state register, one leaves it. -/
theorem onlyTheTablesMoves : Obligations.OnlyTheTablesMoves :=
  fun _ _ _ h hne => (exec_st_cases h).resolve_left hne

/-! The configuration (R39, R180). -/

/-- An operation keeps the configuration and never reopens the time of `TX_CONFIG`, or is `TX_CONFIG` in that time, which it
ends. -/
theorem exec_config_cases {i : Instr} {s t : State} (h : exec i s = .next t) :
    (t.cfg = s.cfg ∧ (s.configOpen = false → t.configOpen = false)) ∨
    ((∃ a b f, i = .txConfig a b f) ∧ s.configOpen = true ∧ t.configOpen = false) := by
  cases exec_did h with
  | configured a b f _ hi ho _ _ ht => exact .inr ⟨⟨a, b, f, hi⟩, ho, by rw [ht]; rfl⟩
  | answered _ _ ht => exact .inl (ht ▸ ⟨rfl, id⟩)
  | passed _ _ _ _ hr =>
    obtain ⟨hcfg, hopen⟩ := (pass_did hr).config_eq
    exact .inl ⟨hcfg, fun _ => hopen⟩
  | received _ _ ht | recycled _ ht | wasReset _ _ ht | prepared _ _ _ _ _ _ ht | inferred _ _ ht | controlled _ _ ht
  | requested _ _ ht => exact .inl (ht ▸ ⟨rfl, fun _ => rfl⟩)
  | started _ _ _ ht | checked _ _ _ ht | volted _ _ _ ht => exact .inl (by simp [ht])

/-- Settles O39, from what one operation can do to the configuration; a step is one operation or none. -/
theorem configurationIsConstant : Obligations.ConfigurationIsConstant := by
  refine ⟨fun i s t h => ?_, fun s t hclosed h => ?_⟩
  · obtain ⟨hcfg, -⟩ | ⟨⟨a, b, f, hi⟩, hopen, hclosed⟩ := exec_config_cases h
    · exact ⟨fun _ => hcfg, fun hne => absurd hcfg hne⟩
    · exact ⟨fun hne => absurd hi (hne a b f), fun _ => ⟨hopen, hclosed⟩⟩
  · obtain rfl | ⟨i, s', hfetch, hexec⟩ := step_next h
    · exact ⟨rfl, hclosed⟩
    · obtain ⟨l, rest, -, -, rfl⟩ := fetch_some hfetch
      obtain ⟨hcfg, hkeeps⟩ | ⟨-, hopen, -⟩ := exec_config_cases hexec
      · exact ⟨hcfg, hkeeps hclosed⟩
      · exact absurd (hclosed.symm.trans hopen) (by decide)

/-! The engine's invariants (R45 (d), R71, R186). -/

/-- An update that leaves the state register, the cycle, its frame and the fault register keeps what concerns them. -/
theorem engineInv_of_frame {s t : State} (hs : EngineInv s) (hinv : StateInv t) (hst : t.st = s.st)
    (htx : t.txStart = s.txStart) (hbuf : t.txBuf = s.txBuf) (hfault : t.fault = s.fault) : EngineInv t :=
  { hinv with
    cycleIffTransmit := by rw [htx, hst]; exact hs.cycleIffTransmit
    txFrame := by rw [hbuf, hst]; exact hs.txFrame
    noFault := hfault.trans hs.noFault }

/-- Outside `TransmitSelf` no cycle is in flight (R45 (d)). -/
theorem txStart_eq_none {s : State} (hs : EngineInv s) (hself : s.st ≠ .transmitSelf) : s.txStart = none := by
  cases htx : s.txStart with
  | none => rfl
  | some t => exact absurd (hs.cycleIffTransmit.mp (by rw [htx]; rfl)) hself

/-- The cycle in flight ends exactly when the engine leaves `TransmitSelf`, and its frame stays (R164, R182). -/
theorem transmitSelfRule_keeps_engineInv {s : State} {now : Nat} (hs : EngineInv s) (hself : s.st = .transmitSelf)
    (hinv : StateInv (transmitSelfRule now s)) : EngineInv (transmitSelfRule now s) := by
  obtain ⟨t, htx⟩ := Option.isSome_iff_exists.mp (hs.cycleIffTransmit.mpr hself)
  have hcheck := txCheck_eq (now := now) htx
  have hprogress := txProgress_eq (now := now) htx
  obtain ⟨hdone, he⟩ | ⟨hbusy, he⟩ := transmitSelfRule_cases now s
  · have hend : s.cfg.tFrameTime < now - t := by
      by_contra hn
      simp [hprogress, hn] at hdone
    exact { hinv with
      cycleIffTransmit := by rw [he, hcheck, if_pos hend]; simp
      txFrame := by rw [he]; nofun
      noFault := by rw [he, hcheck]; exact hs.noFault }
  · have hend : ¬ s.cfg.tFrameTime < now - t := by
      intro hn
      simp [hprogress, hn] at hbusy
    refine engineInv_of_frame hs hinv ?_ ?_ ?_ ?_
    · rw [he, txCheck_st]
    · rw [he, hcheck, htx, if_neg hend]
    · rw [he, txCheck_txBuf]
    · rw [he, hcheck]

/-- Whatever a rule did, the cycle in flight and `TransmitSelf` go together (R45 (d)). -/
theorem RuleDid.keeps_engineInv {now : Nat} {s t : State} (h : RuleDid now s t) (hs : EngineInv s)
    (hinv : StateInv t) : EngineInv t := by
  cases h with
  | kept hself hk hmove =>
    have hidle : t.txStart = none := hk.txStart.trans (txStart_eq_none hs hself)
    have hout : t.st ≠ .transmitSelf := by
      obtain hstay | ⟨-, hne⟩ := hmove
      · exact hstay ▸ hself
      · exact hne
    exact { hinv with
      cycleIffTransmit := by simp [hidle, hout]
      txFrame := fun hin => absurd hin hout
      noFault := hk.fault.trans hs.noFault }
  | began m f hself hf _ ht =>
    have hidle : s.txStart = none := txStart_eq_none hs hself
    obtain ⟨-, he⟩ | ⟨⟨u, hu⟩, -⟩ := txStart_cases now { s with master := m, txBuf := f, cq := consumeRaw s.cq }
    · rw [he] at ht
      subst ht
      exact { hinv with
        cycleIffTransmit := by simp
        txFrame := fun _ => hf
        noFault := hs.noFault }
    · exact absurd (hidle.symm.trans hu) nofun
  | checked hself ht =>
    subst ht
    exact transmitSelfRule_keeps_engineInv hs hself hinv

theorem afterPoll_keeps_engineInv {s : State} {now : Nat} (hs : EngineInv s) (hc : s.clock ≤ now) :
    EngineInv (afterPoll now s) :=
  engineInv_of_frame hs (afterPoll_keeps_stateInv hs.toStateInv hc) rfl rfl rfl rfl

/-- Settles O56: a pass keeps the invariants by what its rule did, a reset establishes them, the other operations of an
agent leave the cycle alone, and the sub-operations of `STEP` are no agent's. -/
theorem agentsKeepEngineInvariant : Obligations.AgentsKeepEngineInvariant := by
  intro i s t hagent hs h
  have hinv : StateInv t := exec_keeps_stateInv hs.toStateInv h
  cases exec_did h with
  | passed now inp _ hc hr => exact (pass_did hr).keeps_engineInv (afterPoll_keeps_engineInv hs hc) hinv
  | wasReset t0 _ ht => exact ht ▸ resetTo_engineInv t0 s
  | answered _ _ ht | received _ _ ht | controlled _ _ ht | requested _ _ ht =>
    subst ht
    exact engineInv_of_frame hs hinv rfl rfl rfl rfl
  | recycled hi | configured _ _ _ _ hi | started _ hi | checked _ hi | prepared _ _ _ _ hi | inferred _ hi
  | volted _ _ hi =>
    subst hi
    cases hagent

/-! What a pass reads of its input record (R40, R245). -/

/-- A validated reply is compared with the voltage threshold and with no other input (R218). -/
theorem acceptReply_congr {a b : Inp} (hv : a.lowVoltThreshold = b.lowVoltThreshold) (f : Frame) (now : Nat)
    (s : State) : acceptReply f now a s = acceptReply f now b s := by
  simp only [acceptReply, checkVolts, hv]

/-- A parroted frame takes nothing from the inputs (R184). -/
theorem transmit_parrot_congr (a b : Inp) (basis : Raw) (now : Nat) (s : State) :
    transmit basis false now a s = transmit basis false now b s := by
  simp only [transmit, prepareFrame_parrot]

/-- A rule that prepares no master frame reads the voltage threshold alone. -/
theorem rowRule_congr {a b : Inp} {row : BusState} {now : Nat} {s : State} (rx : Rx)
    (hv : a.lowVoltThreshold = b.lowVoltThreshold) (hquiet : row = .idle → now - s.tLast ≤ s.cfg.tSilence) :
    rowRule row now a rx s = rowRule row now b rx s := by
  cases row with
  | idle =>
    have hsilent : ¬ now - s.tLast > s.cfg.tSilence := Nat.not_lt.mpr (hquiet rfl)
    simp only [rowRule, idleRule, if_neg hsilent]
  | validateHeaterReplyToMaster => simp only [rowRule, validateReplyToMasterRule, acceptReply_congr hv]
  | validateHeaterReplyToSelf => simp only [rowRule, validateReplyToSelfRule, acceptReply_congr hv]
  | reportMasterExchange => simp only [rowRule, reportMasterRule, transmit_parrot_congr a b]
  | observeMasterFrame | validateMasterFrame | awaitHeaterReplyToMaster | transmitSelf | awaitHeaterReplyToSelf
  | reportSelfExchange | housekeeping => rfl

/-- A bus that had a byte queued, or was not silent for long, is not silent for long after the poll phase (R152). -/
theorem afterPoll_silence {s : State} {now : Nat} (h : s.rxFifo ≠ [] ∨ now - s.tLast ≤ s.cfg.tSilence) :
    now - (afterPoll now s).tLast ≤ s.cfg.tSilence := by
  cases hfifo : s.rxFifo with
  | nil => rw [afterPoll_tLast_nil hfifo]; exact h.resolve_left (not_not_intro hfifo)
  | cons b rest => rw [afterPoll_tLast_cons hfifo, Nat.sub_self]; exact Nat.zero_le _

/-- Settles O60: both passes are refused when time ran back, and run rules that agree otherwise. -/
theorem inputIsSampledOnlyWhereUsed : Obligations.InputIsSampledOnlyWhereUsed := by
  intro s now a b hv hquiet
  by_cases hc : s.clock ≤ now
  · rw [exec_pass hc, exec_pass hc]
    exact rowRule_congr _ hv fun hidle => afterPoll_silence (hquiet hidle)
  · have hback : now < s.clock := Nat.not_le.mp hc
    rw [exec_stepRow, exec_stepRow, pass_timeRanBack rfl hback, pass_timeRanBack rfl hback]

end Sys2Proof.Machine
end

section
/-! PROOFS. The frames in memory (20_memory.md R70 to R72; 41_bus_sync.md R169): what a rule of `STEP` does to the heater's
buffers, to the published reply and to the events; and from it that a reply comes from its own exchange and that the frame in
flight is the frame on the wire. -/

namespace Sys2Proof.Machine

/-! Single operations on the buffers and on the events (R155, R156, R182). -/

/-- A store into one receive buffer leaves the others (R155). -/
theorem rxBytes_rxStore_of_ne {v w : RxBuf} (h : v ≠ w) (i : Nat) (b : Byte) (s : State) :
    rxBytes v (rxStore w i b s) = rxBytes v s := by
  cases w with
  | oem => cases v with
    | oem => exact absurd rfl h
    | hm | hs => rfl
  | hm => cases v with
    | hm => exact absurd rfl h
    | oem | hs => rfl
  | hs => cases v with
    | hs => exact absurd rfl h
    | oem | hm => rfl

/-- A timeout reports itself, perhaps after a log line, and recycles (R156, R270). -/
theorem timeout_events (w : Bool) (now : Nat) (s : State) :
    ∃ log : List Event, (log = [] ∨ log = [.logTimeout]) ∧
      (timeout w now s).events = s.events ++ (log ++ [.frameCollectionTimeout s.st s.idx]) ++ [.recycle] := by
  obtain ⟨-, he⟩ | ⟨-, he⟩ := logTimeout_cases now s
  · exact ⟨[.logTimeout], .inr rfl, by simp [timeout, he]⟩
  · exact ⟨[], .inl rfl, by simp [timeout, he]⟩

/-- `TX_CHECK` emits nothing but the write of the frame in `txBuf` (R182). -/
theorem txCheck_events_cases (now : Nat) (s : State) :
    (txCheck now s).events = s.events ∨ (txCheck now s).events = s.events ++ [.txWrite s.txBuf] := by
  cases htx : s.txStart with
  | none => exact .inl (by simp [txCheck, htx])
  | some t =>
    rw [txCheck_eq htx]
    by_cases hwrite : s.pending = true ∧ s.cfg.tStartDelay + s.cfg.tFrontPorch < now - t
    · exact .inr (by simp only [if_pos hwrite])
    · exact .inl (by simp only [if_neg hwrite, List.append_nil])

/-- The rule of `TransmitSelf` adds only state and times to `TX_CHECK` (R164). -/
theorem transmitSelfRule_events (now : Nat) (s : State) : (transmitSelfRule now s).events = (txCheck now s).events := by
  obtain ⟨-, he⟩ | ⟨-, he⟩ := transmitSelfRule_cases now s <;> rw [he]

/-- The frame in flight is only read by its rule (R70, R164). -/
theorem transmitSelfRule_txBuf (now : Nat) (s : State) : (transmitSelfRule now s).txBuf = s.txBuf := by
  obtain ⟨-, he⟩ | ⟨-, he⟩ := transmitSelfRule_cases now s <;> simp [he]

/-! What a rule of `STEP` does to the exchange with the heater (R157 to R168). -/

/-- The published reply and the heater's two buffers are the same in two states. -/
structure KeepsExchange (s t : State) : Prop where
  pubHtr : t.pubHtr = s.pubHtr
  bufHM : t.bufHM = s.bufHM
  bufHS : t.bufHS = s.bufHS

/-- What a rule did, seen from the exchange with the heater. -/
inductive ExchangeDid (now : Nat) (s t : State) : Prop where
  /-- It left the exchange alone and emitted nothing. -/
  | kept (hk : KeepsExchange s t) (he : t.events = s.events)
  /-- It stored a byte in the buffer of its own collecting state (R155). -/
  | stored (w : RxBuf) (b : Byte) (hst : s.st = collectsIn w) (hk : KeepsExchange (rxStore w s.idx b s) t)
      (he : t.events = s.events)
  /-- It published the verified heater buffer of its own validate state (R161, R166). -/
  | published (w : RxBuf) (hw : w ≠ .oem) (hst : s.st = completesTo w) (hv : verifyCrc (rxBytes w s) = true)
      (hp : t.pubHtr = some ⟨⟨rxBytes w s, .heater⟩, now⟩) (hm : t.bufHM = s.bufHM) (hs : t.bufHS = s.bufHS)
      (he : t.events = s.events)
  /-- It failed and recycled, into `Housekeeping` (R265). -/
  | recovered (log : List Event) (hk : KeepsExchange s t) (hst : t.st = .housekeeping)
      (hlog : ∀ x, Event.txWrite x ∉ log) (he : t.events = s.events ++ log ++ [.recycle])
  /-- It checked the cycle in flight (R164). -/
  | checked (hst : s.st = .transmitSelf) (ht : t = transmitSelfRule now s)

theorem ExchangeDid.unchanged (now : Nat) (s : State) : ExchangeDid now s s := .kept ⟨rfl, rfl, rfl⟩ rfl

theorem recover_exchangeDid {now : Nat} {w : Bool} {err : Event} {s : State} (herr : ∀ x, err ≠ .txWrite x) :
    ExchangeDid now s (recover w err s) :=
  .recovered [err] ⟨rfl, rfl, rfl⟩ rfl (fun x hx => herr x (List.mem_singleton.mp hx).symm) (recover_events w err s)

theorem timeout_exchangeDid {now : Nat} {w : Bool} {s : State} : ExchangeDid now s (timeout w now s) := by
  obtain ⟨log, hlog, he⟩ := timeout_events w now s
  refine .recovered _ ⟨timeout_pubHtr w now s, timeout_bufHM w now s, timeout_bufHS w now s⟩ rfl (fun x => ?_) he
  obtain rfl | rfl := hlog <;> simp

/-- Collection stores into its own buffer, waits, or gives up (R155, R156). -/
theorem collect_exchangeDid {w : RxBuf} {next : BusState} {hw : Bool} {now : Nat} {rx : Rx} {s : State}
    (hst : s.st = collectsIn w) : ExchangeDid now s (collect w next hw now rx s) := by
  match rx with
  | some (b, gap) =>
    rw [collect_byte]
    exact .stored w b hst ⟨rfl, rfl, rfl⟩ (rxStore_events w s.idx b s)
  | none =>
    by_cases hlate : s.cfg.tData < now - s.tLast
    · rw [collect_timeout hlate]
      exact timeout_exchangeDid
    · rw [collect_wait (Nat.not_lt.mp hlate)]
      exact .unchanged now s

/-- A transmission begins without an event and leaves what was received (R157, R162). -/
theorem transmit_keepsExchange {basis : Raw} {m : Bool} {now : Nat} {inp : Inp} {s t : State}
    (h : transmit basis m now inp s = .next t) : KeepsExchange s t ∧ t.events = s.events := by
  obtain ⟨f, -, rfl⟩ := transmit_next h
  exact ⟨by constructor <;> simp, by simp⟩

theorem idleRule_exchangeDid {now : Nat} {inp : Inp} {rx : Rx} {s t : State}
    (h : idleRule now inp rx s = .next t) : ExchangeDid now s t := by
  unfold idleRule at h
  split at h
  case isTrue =>
    obtain ⟨hk, he⟩ := transmit_keepsExchange h
    exact .kept ⟨hk.pubHtr, hk.bufHM, hk.bufHS⟩ he
  case isFalse =>
    split at h
    next b gap =>
      split at h
      case isTrue => cases h; exact .kept ⟨rfl, rfl, rfl⟩ rfl
      case isFalse => cases h; exact .unchanged now s
    next => cases h; exact .unchanged now s

theorem reportMasterRule_exchangeDid {now : Nat} {inp : Inp} {s t : State}
    (h : reportMasterRule now inp s = .next t) : ExchangeDid now s t := by
  unfold reportMasterRule at h
  split at h
  case isTrue =>
    split at h
    next =>
      obtain ⟨hk, he⟩ := transmit_keepsExchange h
      exact .kept hk he
    next => cases h
  case isFalse => cases h; exact .unchanged now s

theorem validateMasterRule_exchangeDid (now : Nat) (s : State) : ExchangeDid now s (validateMasterRule now s) := by
  unfold validateMasterRule
  split
  · exact .kept ⟨rfl, rfl, rfl⟩ rfl
  · exact recover_exchangeDid nofun

theorem validateReplyToMasterRule_exchangeDid {now : Nat} {inp : Inp} {s : State}
    (hst : s.st = .validateHeaterReplyToMaster) : ExchangeDid now s (validateReplyToMasterRule now inp s) := by
  unfold validateReplyToMasterRule
  split
  next f hf =>
    obtain ⟨hv, rfl⟩ := parse_eq_some.mp hf
    exact .published .hm nofun hst hv (by simp [acceptReply_eq, rxBytes]) (by simp [acceptReply_eq])
      (by simp [acceptReply_eq]) (by simp [acceptReply_eq])
  next => exact recover_exchangeDid nofun

theorem validateReplyToSelfRule_exchangeDid {now : Nat} {inp : Inp} {s : State}
    (hst : s.st = .validateHeaterReplyToSelf) : ExchangeDid now s (validateReplyToSelfRule now inp s) := by
  unfold validateReplyToSelfRule
  split
  next f hf =>
    obtain ⟨hv, rfl⟩ := parse_eq_some.mp hf
    exact .published .hs nofun hst hv (by simp [acceptReply_eq, rxBytes]) (by simp [acceptReply_eq])
      (by simp [acceptReply_eq]) (by simp [acceptReply_eq])
  next => exact recover_exchangeDid nofun

/-- Every rule, in the state that selects it, did one of these. -/
theorem rowRule_exchangeDid {now : Nat} {inp : Inp} {rx : Rx} {row : BusState} {s t : State} (hst : s.st = row)
    (h : rowRule row now inp rx s = .next t) : ExchangeDid now s t := by
  cases row with
  | idle => exact idleRule_exchangeDid h
  | observeMasterFrame | awaitHeaterReplyToMaster | awaitHeaterReplyToSelf => cases h; exact collect_exchangeDid hst
  | validateMasterFrame => cases h; exact validateMasterRule_exchangeDid now s
  | validateHeaterReplyToMaster => cases h; exact validateReplyToMasterRule_exchangeDid hst
  | reportMasterExchange => exact reportMasterRule_exchangeDid h
  | transmitSelf => cases h; exact .checked hst rfl
  | validateHeaterReplyToSelf => cases h; exact validateReplyToSelfRule_exchangeDid hst
  | reportSelfExchange | housekeeping => cases h; exact .kept ⟨rfl, rfl, rfl⟩ rfl

/-- A pass did to the exchange what its rule did, on the state after the poll phase (R151). -/
theorem pass_exchangeDid {now : Nat} {inp : Inp} {s t : State}
    (h : rowRule s.st now inp (polled now s) (afterPoll now s) = .next t) : ExchangeDid now (afterPoll now s) t :=
  rowRule_exchangeDid (afterPoll_st now s) h

/-! What follows of a rule for the published reply, for the heater's buffers and for the events (R71, R72, R169). -/

theorem transmitSelfRule_keepsExchange (now : Nat) (s : State) : KeepsExchange s (transmitSelfRule now s) := by
  obtain ⟨-, he⟩ | ⟨-, he⟩ := transmitSelfRule_cases now s <;>
  · rw [he]
    constructor <;> simp

theorem KeepsExchange.rxBytes_eq {w : RxBuf} {s t : State} (hk : KeepsExchange s t) (hw : w ≠ .oem) :
    rxBytes w t = rxBytes w s := by
  cases w with
  | oem => exact absurd rfl hw
  | hm => exact hk.bufHM
  | hs => exact hk.bufHS

/-- A new reply is the verified heater buffer of the validate state, at the time of the pass (R72, R169). -/
theorem ExchangeDid.published_of_ne {now : Nat} {s t : State} (h : ExchangeDid now s t) (hne : t.pubHtr ≠ s.pubHtr) :
    ∃ w, w ≠ .oem ∧ s.st = completesTo w ∧ verifyCrc (rxBytes w s) = true ∧
      t.pubHtr = some ⟨⟨rxBytes w s, .heater⟩, now⟩ := by
  cases h with
  | published w hw hst hv hp => exact ⟨w, hw, hst, hv, hp⟩
  | kept hk | recovered _ hk => exact absurd hk.pubHtr hne
  | stored w b _ hk => exact absurd (hk.pubHtr.trans (rxStore_pubHtr w s.idx b s)) hne
  | checked _ ht => exact absurd (ht ▸ (transmitSelfRule_keepsExchange now s).pubHtr) hne

/-- A heater buffer is filled in its own await state only (R169). -/
theorem ExchangeDid.collects_of_ne {now : Nat} {w : RxBuf} {s t : State} (h : ExchangeDid now s t) (hw : w ≠ .oem)
    (hne : rxBytes w t ≠ rxBytes w s) : s.st = collectsIn w := by
  cases h with
  | stored v b hst hk =>
    by_cases hv : w = v
    · exact hv ▸ hst
    · exact absurd ((hk.rxBytes_eq hw).trans (rxBytes_rxStore_of_ne hv s.idx b s)) hne
  | kept hk | recovered _ hk => exact absurd (hk.rxBytes_eq hw) hne
  | published _ _ _ _ _ hm hs =>
    cases w with
    | oem => exact absurd rfl hw
    | hm => exact absurd hm hne
    | hs => exact absurd hs hne
  | checked _ ht => exact absurd (ht ▸ (transmitSelfRule_keepsExchange now s).rxBytes_eq hw) hne

/-- On an empty list `TX_CHECK` emits nothing but its write (R182). -/
theorem mem_txCheck_events {now : Nat} {s : State} {e : Event} (hs : s.events = [])
    (he : e ∈ (txCheck now s).events) : e = .txWrite s.txBuf := by
  obtain hc | hc := txCheck_events_cases now s
  · simp [hc, hs] at he
  · simpa [hc, hs] using he

/-- A rule that recycles ends in `Housekeeping` (R265). -/
theorem ExchangeDid.housekeeping_of_recycle {now : Nat} {s t : State} (h : ExchangeDid now s t) (hs : s.events = [])
    (hrec : Event.recycle ∈ t.events) : t.st = .housekeeping := by
  cases h with
  | recovered _ _ hst => exact hst
  | kept _ he | stored _ _ _ _ he | published _ _ _ _ _ _ _ he => simp [he, hs] at hrec
  | checked _ ht => cases mem_txCheck_events hs (transmitSelfRule_events now s ▸ ht ▸ hrec)

/-- A rule that writes to the wire is the rule of `TransmitSelf`, and it writes `txBuf` (R71, R182). -/
theorem ExchangeDid.txBuf_of_txWrite {now : Nat} {s t : State} {x : Raw} (h : ExchangeDid now s t) (hs : s.events = [])
    (hx : Event.txWrite x ∈ t.events) : s.st = .transmitSelf ∧ x = s.txBuf := by
  cases h with
  | checked hst ht => exact ⟨hst, Event.txWrite.inj (mem_txCheck_events hs (transmitSelfRule_events now s ▸ ht ▸ hx))⟩
  | kept _ he | stored _ _ _ _ he | published _ _ _ _ _ _ _ he => simp [he, hs] at hx
  | recovered _ _ _ hlog he => simp [he, hs, hlog] at hx

/-- A rule in `TransmitSelf` leaves the frame in flight (R70). -/
theorem RuleDid.txBuf_eq {now : Nat} {s t : State} (h : RuleDid now s t) (hst : s.st = .transmitSelf) :
    t.txBuf = s.txBuf := by
  cases h with
  | kept hself | began _ _ hself => exact absurd hst hself
  | checked _ ht => exact ht ▸ transmitSelfRule_txBuf now s

/-! Every operation (R70, R71, R72, R169). -/

/-- An operation is a pass, or a reset, or leaves the exchange alone and recycles only as `RECYCLE`. -/
theorem exec_exchange_cases {i : Instr} {s t : State} (h : exec i s = .next t) :
    (∃ now inp, i = stepRow s.st now inp ∧ ExchangeDid now (afterPoll now s) t) ∨ (∃ t0, i = .reset t0) ∨
      (KeepsExchange s t ∧ (Event.recycle ∈ t.events → i = .recycle)) := by
  cases exec_did h with
  | passed now inp hi _ hr => exact .inl ⟨now, inp, hi, pass_exchangeDid hr⟩
  | wasReset t0 hi => exact .inr (.inl ⟨t0, hi⟩)
  | recycled hi ht => exact .inr (.inr ⟨ht ▸ ⟨rfl, rfl, rfl⟩, fun _ => hi⟩)
  | checked now _ _ ht =>
    subst ht
    exact .inr (.inr ⟨⟨by simp, by simp, by simp⟩, fun hrec => nomatch mem_txCheck_events rfl hrec⟩)
  | answered _ _ ht | received _ _ ht | configured _ _ _ _ _ _ _ _ ht | prepared _ _ _ _ _ _ ht | inferred _ _ ht
  | controlled _ _ ht | requested _ _ ht =>
    exact .inr (.inr ⟨ht ▸ ⟨rfl, rfl, rfl⟩, fun hrec => by subst ht; cases hrec⟩)
  | started _ _ _ ht | volted _ _ _ ht =>
    exact .inr (.inr ⟨ht ▸ ⟨by simp, by simp, by simp⟩, fun hrec => by simp [ht] at hrec⟩)

/-- Settles O36: outside a pass only `RESET` touches the exchange, and a pass touches it as its own state's rule does. -/
theorem exchangeValidity : Obligations.ExchangeValidity := by
  intro i s t h hreset
  obtain ⟨now, inp, rfl, hdid⟩ | ⟨t0, hi⟩ | ⟨hk, hrecycle⟩ := exec_exchange_cases h
  · refine ⟨fun hne => ?_, hdid.collects_of_ne (w := .hm) nofun, hdid.collects_of_ne (w := .hs) nofun,
      fun hrec _ => hdid.housekeeping_of_recycle rfl hrec⟩
    obtain ⟨w, hw, hst, hv, hp⟩ := hdid.published_of_ne hne
    rw [afterPoll_st] at hst
    refine ⟨now, inp, ?_⟩
    cases w with
    | oem => exact absurd rfl hw
    | hm => exact .inl ⟨by rw [hst]; rfl, hst, hv, hp⟩
    | hs => exact .inr ⟨by rw [hst]; rfl, hst, hv, hp⟩
  · exact absurd hi (hreset t0)
  · exact ⟨fun hne => absurd hk.pubHtr hne, fun hne => absurd hk.bufHM hne, fun hne => absurd hk.bufHS hne,
      fun hrec hne => absurd (hrecycle hrec) hne⟩

/-- Settles O57: a pass writes nothing but the frame in flight and leaves it, the other operations of an agent write nothing,
and the invariant says that the frame in flight verifies. -/
theorem frameInFlightIsFrozen : Obligations.FrameInFlightIsFrozen := by
  intro i s t hagent hs h
  cases exec_did h with
  | passed now inp _ _ hr =>
    refine ⟨fun hst _ => (pass_did hr).txBuf_eq hst, fun x hx => ?_⟩
    obtain ⟨hst, rfl⟩ := (pass_exchangeDid hr).txBuf_of_txWrite rfl hx
    exact ⟨rfl, hs.txFrame hst⟩
  | wasReset t0 hi ht => exact ⟨fun _ hne => absurd hi (hne t0), fun x hx => by subst ht; cases hx⟩
  | answered _ _ ht | received _ _ ht | controlled _ _ ht | requested _ _ ht =>
    subst ht
    exact ⟨fun _ _ => rfl, nofun⟩
  | recycled hi | configured _ _ _ _ hi | started _ hi | checked _ hi | prepared _ _ _ _ hi | inferred _ hi
  | volted _ _ hi =>
    subst hi
    cases hagent

end Sys2Proof.Machine
end

section
/-! PROOFS. The encoding (30_encoding.md R91 to R93; 40_codec_crc.md R116, R119; entries 2 and 3): each operand's reader
consumes exactly what its writer wrote, so the line of an operation decodes to the operation. The operations are grouped by
the operands their code carries. -/

namespace Sys2Proof

/-! Operands (R90, R95; entry 2). -/

/-- A reader undoes a writer: from the writer's bytes, whatever follows them, it reads the value and leaves the rest. -/
def Reads {α : Type} (p : List Byte → Except DecodeError (α × List Byte)) (enc : List Byte) (a : α) : Prop :=
  ∀ rest : List Byte, p (enc ++ rest) = .ok (a, rest)

/-- An operand with more behind it: the next reader goes on where this one stopped. -/
theorem Reads.first {α β : Type} {p : List Byte → Except DecodeError (α × List Byte)} {enc rest : List Byte} {a : α}
    {k : α → List Byte → Except DecodeError β} (h : Reads p enc a) : andThen (p (enc ++ rest)) k = k a rest := by
  rw [h, andThen_ok]

/-- The last operand of a code leaves nothing behind it. -/
theorem Reads.last {α β : Type} {p : List Byte → Except DecodeError (α × List Byte)} {enc : List Byte} {a : α}
    {k : α → List Byte → Except DecodeError β} (h : Reads p enc a) : andThen (p enc) k = k a [] := by
  simpa using h.first (rest := []) (k := k)

theorem reads_byte (b : Byte) : Reads decByte [b] b := decByte_cons b

theorem reads_role (r : Role) : Reads decRole [roleCode r] r := decRole_roleCode r

theorem reads_view (v : DemandView) : Reads decView [viewCode v] v := decView_viewCode v

theorem reads_bool (v : Bool) : Reads decBool (encBool v) v := decBool_encBool v

theorem reads_nat (n : Nat) : Reads decNat (encNat n) n := decNat_encNat n

theorem reads_int (v : Int) : Reads decInt (encInt v) v := decInt_encInt v

theorem reads_rat (q : ℚ) : Reads decRat (encRat q) q := decRat_encRat q

theorem reads_data (data : List Byte) : Reads decData (encData data) data := decData_encData data

theorem reads_vector {n : Nat} (v : Vector Byte n) : Reads (decVector n) v.toList v := decVector_toList v

/-! A validated frame as an operand: bytes 0 to 21 fix it (R71, R113 to R116). -/

/-- The 22 bytes of a frame's payload, as a vector. -/
def payloadVector (x : Raw) : Vector Byte 22 := ⟨(Machine.payload x).toArray, by simp⟩

theorem payloadVector_getElem (x : Raw) {i : Nat} (h : i < 22) : (payloadVector x)[i] = x[i] := by
  simp [payloadVector, Machine.payload]

/-- A two-byte read determines both bytes (R62). -/
theorem bytes_of_memRead2_eq {x y : Raw} {hi lo : Fin 24}
    (h : Machine.memRead2 x hi lo = Machine.memRead2 y hi lo) : x[hi] = y[hi] ∧ x[lo] = y[lo] := by
  have hwide : Machine.wide x hi lo = Machine.wide y hi lo := by
    rw [← Machine.memRead2_toNat, h, Machine.memRead2_toNat]
  have hx := x[lo].isLt
  have hy := y[lo].isLt
  simp only [Machine.wide] at hwide
  exact ⟨BitVec.eq_of_toNat_eq (by omega), BitVec.eq_of_toNat_eq (by omega)⟩

/-- Two frames that verify and agree in bytes 0 to 21 agree in all 24 bytes (R71, R114). -/
theorem eq_of_verifyCrc {x y : Raw} (hx : Machine.verifyCrc x = true) (hy : Machine.verifyCrc y = true)
    (h : ∀ i (hi : i < 22), x[i] = y[i]) : x = y := by
  have hpayload : Machine.payload x = Machine.payload y := Machine.payload_congr fun i hi => h i hi
  have hstored : Machine.storedCrc x = Machine.storedCrc y := by
    rw [← beq_iff_eq.mp hx, ← beq_iff_eq.mp hy, hpayload]
  obtain ⟨h22, h23⟩ := bytes_of_memRead2_eq hstored
  ext1 i hi
  obtain hlow | rfl | rfl : i < 22 ∨ i = 22 ∨ i = 23 := by omega
  · exact h i hlow
  · exact h22
  · exact h23

/-- A verified frame is its first 22 bytes with their checksum (R71, R113). -/
theorem setCrc_payloadVector {x : Raw} (h : Machine.verifyCrc x = true) :
    Machine.setCrc (payloadVector x ++ (#v[0#8, 0#8] : Vector Byte 2)) = x := by
  refine eq_of_verifyCrc (Machine.verifyCrc_setCrc _) h fun i hi => ?_
  rw [Machine.setCrc_getElem _ hi, Vector.getElem_append_left hi, payloadVector_getElem x hi]

/-- A validated frame is read back from its payload (R115, R116). -/
theorem reads_frame {role : Role} {f : Frame} (h : f.valid role = true) : Reads (decFrame role) (encFrame f) f := by
  obtain ⟨hrole, hcrc⟩ := Bool.and_eq_true_iff.mp h
  obtain rfl := of_decide_eq_true hrole
  intro rest
  have hread : decVector 22 (encFrame f ++ rest) = .ok (payloadVector f.bytes, rest) :=
    decVector_toList (payloadVector f.bytes) rest
  simp only [decFrame, hread, andThen_ok, setCrc_payloadVector hcrc]

/-! Lines (R91). -/

/-- A line decodes to the operation its code reads as, when no byte follows the operands. -/
theorem decode_of_decodeOp {i : Instr} {code : List Byte} {now : Nat} {inp : Inp}
    (henc : encode i = ⟨.op8, code, now, inp⟩) (hop : decodeOp i.selector now inp code = .ok (i, [])) :
    decode i.selector (encode i) = .ok i := by
  simp only [decode, henc, hop]

/-- An operation with one operand after its number. -/
theorem decode_encode_operand {α : Type} {p : List Byte → Except DecodeError (α × List Byte)} {op : Byte}
    {enc : List Byte} {now : Nat} {inp : Inp} {a : α} (k : α → Instr) (hp : Reads p enc a)
    (henc : encode (k a) = ⟨.op8, op :: enc, now, inp⟩)
    (hop : ∀ st l, decodeOp st now inp (op :: l) = andThen (p l) fun a r => .ok (k a, r)) :
    decode (k a).selector (encode (k a)) = .ok (k a) :=
  decode_of_decodeOp henc ((hop _ _).trans hp.last)

/-- A `GET` of one field. -/
theorem decode_encode_get {role : Role} {r off : Byte} {f : Frame} (k : Frame → Instr) (hv : f.valid role = true)
    (henc : encode (k f) = Line.ofCode (0x15#8 :: r :: off :: encFrame f))
    (hget : ∀ l, decodeGet (r :: off :: l) = andThen (decFrame role l) fun f r => .ok (k f, r)) :
    decode (k f).selector (encode (k f)) = .ok (k f) :=
  decode_of_decodeOp henc ((hget _).trans (reads_frame hv).last)

/-- A `SET` of one field. -/
theorem decode_encode_set {α : Type} {p : List Byte → Except DecodeError (α × List Byte)} {r off : Byte}
    {enc : List Byte} {x : Raw} {v : α} {k : Raw → α → Instr} (hp : Reads p enc v)
    (henc : encode (k x v) = Line.ofCode (0x16#8 :: r :: off :: (x.toList ++ enc)))
    (hset : ∀ l, decodeSet (r :: off :: l) =
      andThen (decVector 24 l) fun x l3 => andThen (p l3) fun v r => .ok (k x v, r)) :
    decode (k x v).selector (encode (k x v)) = .ok (k x v) :=
  decode_of_decodeOp henc ((hset _).trans ((reads_vector x).first.trans hp.last))

/-- Settles O1, by the operands an operation's code carries. -/
theorem decodeOfEncode : Obligations.DecodeOfEncode := by
  intro i hi
  cases i with
  | stepIdle now inp | stepObserveMasterFrame now inp | stepValidateMasterFrame now inp
  | stepAwaitHeaterReplyToMaster now inp | stepValidateHeaterReplyToMaster now inp | stepReportMasterExchange now inp
  | stepTransmitSelf now inp | stepAwaitHeaterReplyToSelf now inp | stepValidateHeaterReplyToSelf now inp
  | stepReportSelfExchange now inp | stepHousekeeping now inp
  | recycle | reset t0 | txStart now | txCheck now | sfiInhibit | sfiReset | rdOemFrame | rdHtrFrame | rdFault
  | rdStatus => exact decode_of_decodeOp rfl rfl
  | busRx b | sfiUpdate b | reqRaw b => exact decode_encode_operand _ (reads_byte b) rfl fun _ _ => rfl
  | reqOn v | reqOff v => exact decode_encode_operand _ (reads_bool v) rfl fun _ _ => rfl
  | crc16 data => exact decode_encode_operand _ (reads_data data) rfl fun _ _ => rfl
  | setCrc x | verifyCrc x => exact decode_encode_operand _ (reads_vector x) rfl fun _ _ => rfl
  | composeDisabled x inp => exact decode_encode_operand (.composeDisabled · inp) (reads_vector x) rfl fun _ _ => rfl
  | composeStandard x inp => exact decode_encode_operand (.composeStandard · inp) (reads_vector x) rfl fun _ _ => rfl
  | composeWindowed x inp => exact decode_encode_operand (.composeWindowed · inp) (reads_vector x) rfl fun _ _ => rfl
  | composeLinearHz x inp => exact decode_encode_operand (.composeLinearHz · inp) (reads_vector x) rfl fun _ _ => rfl
  | checkVolts f inp => exact decode_encode_operand (.checkVolts · inp) (reads_frame hi) rfl fun _ _ => rfl
  | getCHeader f | getCLength f | getCCommand f | getCActualTemperature f | getCPumpMinFreq f | getCPumpMaxFreq f
  | getCFanMinRPM f | getCFanMaxRPM f | getCOperatingVoltage f | getCFanSensorSelect f | getCOperatingMode f
  | getCMinTemperature f | getCMaxTemperature f | getCGlowDrive f | getCPrime f | getCReserved f | getCCrc f =>
    exact decode_encode_get (role := .controller) _ hi rfl fun _ => rfl
  | getHHeader f | getHLength f | getHRunState f | getHErrState f | getHSupplyVoltage f | getHFanRPM f
  | getHFanVoltage f | getHHeatExchgTemp f | getHGlowVoltage f | getHGlowCurrent f | getHActualPumpFreq f
  | getHStoredErrorCode f | getHReserved f | getHCrc f =>
    exact decode_encode_get (role := .heater) _ hi rfl fun _ => rfl
  | setCHeader x v | setCLength x v | setCCommand x v | setCFanSensorSelect x v | setCOperatingMode x v
  | setCGlowDrive x v | setCPrime x v | setHHeader x v | setHLength x v | setHRunState x v | setHErrState x v
  | setHStoredErrorCode x v => exact decode_encode_set (reads_byte v) rfl fun _ => rfl
  | setCActualTemperature x v | setCFanMinRPM x v | setCFanMaxRPM x v | setCMinTemperature x v
  | setCMaxTemperature x v | setHFanRPM x v | setHHeatExchgTemp x v =>
    exact decode_encode_set (reads_int v) rfl fun _ => rfl
  | setCPumpMinFreq x p | setCPumpMaxFreq x p | setCOperatingVoltage x p | setHSupplyVoltage x p | setHFanVoltage x p
  | setHGlowVoltage x p | setHGlowCurrent x p | setHActualPumpFreq x p =>
    exact decode_encode_set (reads_rat p) rfl fun _ => rfl
  | setCReserved x v | setHReserved x v => exact decode_encode_set (reads_vector v) rfl fun _ => rfl
  | parse x role => exact decode_of_decodeOp rfl ((reads_vector x).first.trans (reads_role role).last)
  | prepareFrame basis m inp => exact decode_of_decodeOp rfl ((reads_vector basis).first.trans (reads_bool m).last)
  | serialize f => exact decode_of_decodeOp rfl ((reads_role f.role).first.trans (reads_frame hi).last)
  | getCDesiredDemand f view =>
    exact decode_of_decodeOp rfl ((reads_view view).first.trans (reads_frame (role := .controller) hi).last)
  | setCDesiredDemand x view v =>
    exact decode_of_decodeOp rfl
      ((reads_view view).first.trans ((reads_vector x).first.trans (reads_int v).last))
  | txConfig a b c =>
    exact decode_of_decodeOp rfl ((reads_nat a).first.trans ((reads_nat b).first.trans (reads_nat c).last))
  | frameController x | frameHeater x => exact dif_pos x.length_toList

/-- Settles O4: each line is the one the encoder writes for the operation it names. -/
theorem specCodesDecode : Obligations.SpecCodesDecode :=
  ⟨decodeOfEncode (.busRx 0x76#8) rfl, decodeOfEncode (.stepTransmitSelf 922 Inp.zero) rfl,
    decodeOfEncode (.stepHousekeeping 331 Inp.zero) rfl, decodeOfEncode (.reset 7) rfl,
    decodeOfEncode (.txStart 901) rfl, decodeOfEncode (.sfiUpdate 0x06#8) rfl,
    decodeOfEncode (.reqOn true) rfl, decodeOfEncode (.reqRaw 0x5A#8) rfl⟩

end Sys2Proof
end

section
/-! PROOFS. The frame layouts and the rows of `STEP` (30_encoding.md R81, R82, R90, R92; 41_bus_sync.md R151): a layout row
reads every field of a frame that `PARSE` answers, and a row of `STEP` runs in its own state and in order of time only. -/

namespace Sys2Proof.Machine

/-! The frame layouts (R81, R82; entry 16). -/

theorem getCount16_eq_wide (hi lo : Fin 24) (x : Raw) : getCount16 hi lo x = wide x hi lo := memRead2_toNat x hi lo

theorem getScaled16_eq_wide (hi lo : Fin 24) (perUnit : ℚ) (x : Raw) :
    getScaled16 hi lo perUnit x = (wide x hi lo : ℚ) / perUnit := by
  rw [getScaled16, getCount16_eq_wide]

/-- `FRAME.Controller` answers the fields of the frame that `PARSE` answers (R81). -/
theorem exec_frameController (x : Raw) (s : State) : exec (.frameController x) s = .next { s with
    events := [], result := .controllerFields
      ((parse x .controller).map fun f => controllerLayout s.cfg.tempByteSigned f.bytes) } := rfl

/-- `FRAME.Heater` answers the fields of the frame that `PARSE` answers (R82). -/
theorem exec_frameHeater (x : Raw) (s : State) : exec (.frameHeater x) s = .next { s with
    events := [], result := .heaterFields ((parse x .heater).map fun f => heaterLayout f.bytes) } := rfl

theorem parse_of_verifyCrc {x : Raw} (h : verifyCrc x = true) (role : Role) : parse x role = some ⟨x, role⟩ :=
  parse_eq_some.mpr ⟨h, rfl⟩

/-- Settles O20: `PARSE` answers the frame or nothing, and each layout reads the frame field by field. -/
theorem frameLayouts : Obligations.FrameLayouts := by
  refine ⟨fun x s hx => ⟨?_, ?_⟩, fun x s hx => ⟨?_, ?_⟩⟩
  · simp only [exec_frameController, parse_of_verifyCrc hx, Option.map_some, controllerLayout, getCount16_eq_wide]
    rfl
  · simp only [exec_frameHeater, parse_of_verifyCrc hx, Option.map_some, heaterLayout, getCount16_eq_wide,
      getScaled16_eq_wide]
    rfl
  · rw [exec_frameController, parse_eq_none.mpr hx, Option.map_none]
  · rw [exec_frameHeater, parse_eq_none.mpr hx, Option.map_none]

/-! The rows of `STEP` (R92, R151; entries 7 and 9). -/

/-- Settles O32: every row is a pass, which asks for its state first and for its time second. -/
theorem passNeedsItsStateAndItsTime : Obligations.PassNeedsItsStateAndItsTime := by
  refine ⟨fun r now inp s hst => ?_, fun now inp s hback => ?_⟩
  · rw [exec_stepRow, pass_rowNotSelected hst]
  · rw [exec_stepRow, pass_timeRanBack rfl hback]

end Sys2Proof.Machine
end

section
/-! PROOFS. The checksum (40_codec_crc.md R110 to R118): one shift is linear and injective, so the table form is the bitwise
form, and a checksum determines each byte of its data when the others are known. -/

namespace Sys2Proof.Machine

/-! One shift and eight (R111). -/

/-- What a shift adds to the word, by the bit shifted out. -/
def crcMask (out : Bool) : Half := if out then 0xA001#16 else 0#16

theorem crcMask_xor (p q : Bool) : crcMask (p ^^ q) = crcMask p ^^^ crcMask q := by
  cases p <;> cases q <;> rfl

theorem crcShift_eq_xor (c : Half) : crcShift c = (c >>> 1) ^^^ crcMask (c.getLsbD 0) := by
  unfold crcShift crcMask
  split
  · rfl
  · rw [BitVec.xor_zero]

theorem crcShift_xor (a b : Half) : crcShift (a ^^^ b) = crcShift a ^^^ crcShift b := by
  simp only [crcShift_eq_xor, BitVec.ushiftRight_xor_distrib, BitVec.getLsbD_xor, crcMask_xor]
  ac_rfl

theorem crcShift8_xor (a b : Half) : crcShift8 (a ^^^ b) = crcShift8 a ^^^ crcShift8 b := by
  simp only [crcShift8, crcShift_xor]

/-- The bit shifted out comes back as bit 15: the constant has it set, and the shift leaves it clear. -/
theorem crcShift_getLsbD_top (c : Half) : (crcShift c).getLsbD 15 = c.getLsbD 0 := by
  rw [crcShift_eq_xor, BitVec.getLsbD_xor]
  cases c.getLsbD 0 <;> simp [crcMask]

theorem crcShift_injective : Function.Injective crcShift := by
  intro a b h
  have hlow : a.getLsbD 0 = b.getLsbD 0 := by rw [← crcShift_getLsbD_top, h, crcShift_getLsbD_top]
  have hhigh : a >>> 1 = b >>> 1 := by
    rw [crcShift_eq_xor, crcShift_eq_xor, hlow] at h
    exact BitVec.xor_left_inj _ |>.mp h
  refine BitVec.eq_of_getLsbD_eq fun i _ => ?_
  cases i with
  | zero => exact hlow
  | succ k => simpa [BitVec.getLsbD_ushiftRight, Nat.add_comm] using congrArg (BitVec.getLsbD · k) hhigh

theorem crcShift8_eq_iterate : crcShift8 = crcShift^[8] := rfl

theorem crcShift8_injective : Function.Injective crcShift8 := crcShift_injective.iterate 8

/-- While only zeros are shifted out, the constant does not enter. -/
theorem crcShift_iterate_of_low_zero {c : Half} {n : Nat} (h : ∀ k < n, c.getLsbD k = false) :
    crcShift^[n] c = c >>> n := by
  induction n with
  | zero => simp
  | succ n ih =>
    have hout : (c >>> n).getLsbD 0 = false := by simpa using h n (by omega)
    rw [Function.iterate_succ_apply', ih fun k hk => h k (by omega), crcShift_eq_xor, hout, BitVec.shiftRight_add]
    exact BitVec.xor_zero

/-! One byte and a sequence of bytes (R110, R112). -/

/-- Eight shifts of a word: its low byte goes through the table, its high byte only moves down. -/
theorem crcShift8_eq_table (c : Half) : crcShift8 c = (c >>> 8) ^^^ crcTable (c.setWidth 8) := by
  have hsplit : c = (c ^^^ (c.setWidth 8).setWidth 16) ^^^ (c.setWidth 8).setWidth 16 := by
    rw [BitVec.xor_assoc, BitVec.xor_self, BitVec.xor_zero]
  have hhigh : crcShift8 (c ^^^ (c.setWidth 8).setWidth 16) = c >>> 8 := by
    rw [crcShift8_eq_iterate, crcShift_iterate_of_low_zero fun k hk => ?_]
    · ext i hi
      simp
    · have hk16 : k < 16 := by omega
      simp [hk, hk16]
  calc crcShift8 c = crcShift8 ((c ^^^ (c.setWidth 8).setWidth 16) ^^^ (c.setWidth 8).setWidth 16) := by rw [← hsplit]
    _ = (c >>> 8) ^^^ crcTable (c.setWidth 8) := by rw [crcShift8_xor, hhigh, crcTable]

/-- One byte of the table form is one byte of the bitwise form. -/
theorem crcByte_eq_crcShift8 (crc : Half) (b : Byte) : crcByte crc b = crcShift8 (crc ^^^ b.setWidth 16) := by
  have hbyte : b.setWidth 16 >>> 8 = 0#16 := by
    ext i hi
    simp
  rw [crcShift8_eq_table, BitVec.ushiftRight_xor_distrib, hbyte, BitVec.xor_zero, crcByte]

/-- Settles O6: the two forms fold the same step. -/
theorem bitwiseCrcIsTheSame : Obligations.BitwiseCrcIsTheSame := by
  intro data
  rw [crc16Bitwise, crc16]
  congr 1
  funext crc b
  exact (crcByte_eq_crcShift8 crc b).symm

theorem crcByte_injective_crc (b : Byte) : Function.Injective fun crc => crcByte crc b := by
  intro c d h
  simp only [crcByte_eq_crcShift8] at h
  exact BitVec.xor_left_inj _ |>.mp (crcShift8_injective h)

theorem crcByte_injective_byte (crc : Half) : Function.Injective (crcByte crc) := by
  intro a b h
  simp only [crcByte_eq_crcShift8] at h
  have hwide := BitVec.xor_right_inj _ |>.mp (crcShift8_injective h)
  simpa using congrArg (BitVec.setWidth 8) hwide

/-- Two different checksums stay different over the same bytes. -/
theorem foldl_crcByte_injective (data : List Byte) : Function.Injective fun crc => data.foldl crcByte crc := by
  induction data with
  | nil => exact fun _ _ h => h
  | cons b rest ih => exact ih.comp (crcByte_injective_crc b)

/-- The checksum determines a byte when all the others are known: an error inside one byte never goes unseen (R114). -/
theorem crc16_set_injective {data : List Byte} {i : Nat} (hi : i < data.length) :
    Function.Injective fun b => crc16 (data.set i b) := by
  intro a b h
  simp only [crc16, List.set_eq_take_append_cons_drop, if_pos hi, List.foldl_append, List.foldl_cons] at h
  exact crcByte_injective_byte _ (foldl_crcByte_injective _ h)

/-- Settles O5: `CRC16` is that fold, and the worked values of R110 are computed. -/
theorem crc16Operation : Obligations.Crc16Operation :=
  ⟨fun _ _ => rfl, by decide +kernel, by decide +kernel⟩

/-! `SET_CRC` and `VERIFY_CRC` (R113, R114). -/

/-- Settles O7: the checksum is written as two bytes and reads back. -/
theorem setCrcOperation : Obligations.SetCrcOperation := by
  intro x s
  refine ⟨setCrc x, rfl, memWrite2_sameExcept (by decide) (by decide), ?_⟩
  rw [← memRead2_toNat]
  exact congrArg BitVec.toNat (storedCrc_setCrc x)

theorem verifyCrc_eq_decide (x : Raw) :
    verifyCrc x = decide ((crc16 (payload x)).toNat = wide x 22 23) := by
  rw [verifyCrc, storedCrc, ← memRead2_toNat, beq_eq_decide]
  exact decide_eq_decide.mpr BitVec.toNat_inj.symm

theorem payload_set {x : Raw} {i : Fin 24} (b : Byte) : payload (x.set i b) = (payload x).set i b := by
  rw [payload, Vector.toList_set, List.take_set, payload]

theorem storedCrc_set {x : Raw} {i : Fin 24} (hi : i.val < 22) (b : Byte) : storedCrc (x.set i b) = storedCrc x := by
  have h22 : (x.set i b)[22] = x[22] := Vector.getElem_set_ne _ _ (by omega)
  have h23 : (x.set i b)[23] = x[23] := Vector.getElem_set_ne _ _ (by omega)
  exact congrArg₂ (· ++ ·) h22 h23

/-- A frame that verifies does not once a byte that the checksum covers is another (R114). -/
theorem verifyCrc_set_of_ne {x : Raw} {i : Fin 24} {b : Byte} (hx : verifyCrc x = true) (hi : i.val < 22)
    (hb : b ≠ x[i]) : verifyCrc (x.set i b) = false := by
  refine beq_eq_false_iff_ne.mpr fun h => hb ?_
  have hlength : i.val < (payload x).length := by rwa [payload_length]
  have hkept : (payload x).set i x[i] = payload x := by rw [← payload_set, Fin.getElem_fin, Vector.set_getElem_self]
  refine crc16_set_injective hlength ?_
  simp only [hkept, ← payload_set, h, storedCrc_set hi, beq_iff_eq.mp hx]

/-- A flipped bit makes another byte. -/
theorem xor_bit_ne {a : Byte} {b : Nat} (hb : b < 8) : a ^^^ (1#8 <<< b) ≠ a := by
  intro h
  have hbit := congrArg (BitVec.getLsbD · b) h
  simp [hb] at hbit

/-- Settles O8: the comparison, the frame `SET_CRC` finished, and every bit of its first 22 bytes. -/
theorem verifyCrcOperation : Obligations.VerifyCrcOperation := by
  refine ⟨fun x s => ?_, verifyCrc_setCrc, fun x i b hi hb => ?_⟩
  · exact congrArg (fun v => Host.Outcome.next (answer (.bool v) s)) (verifyCrc_eq_decide x)
  · exact verifyCrc_set_of_ne (verifyCrc_setCrc x) hi (xor_bit_ne hb)

/-! `PARSE` and `SERIALIZE` (R115, R118). -/

/-- Settles O9: `PARSE` is that choice on `VERIFY_CRC`, returned as a value. -/
theorem parseOperation : Obligations.ParseOperation := fun _ _ _ => rfl

/-- Settles O10: a validated frame holds bytes that `PARSE` answers with its role. -/
theorem serializeOperation : Obligations.SerializeOperation := by
  intro f s hf
  obtain ⟨-, hcrc⟩ := Bool.and_eq_true_iff.mp hf
  exact ⟨onFrame_eq hf rfl, parse_of_verifyCrc hcrc f.role⟩

end Sys2Proof.Machine
end

section
/-! PROOFS. The decoder (30_encoding.md R91; 40_codec_crc.md R116, R119; entry 2): a frame operand is finished by `SET_CRC` as it
is read, so whatever a reader answers is well formed. The proof follows the readers: operand by operand, then row by row. -/

namespace Sys2Proof

/-- A reader's answer, if there is one, is a well-formed operation. -/
def YieldsWellFormed (p : Except DecodeError (Instr × List Byte)) : Prop :=
  ∀ i rest, p = .ok (i, rest) → i.wellFormed = true

theorem yieldsWellFormed_ok {i : Instr} {rest : List Byte} (h : i.wellFormed = true) :
    YieldsWellFormed (.ok (i, rest)) := by
  rintro _ _ ⟨⟩
  exact h

theorem yieldsWellFormed_error (e : DecodeError) : YieldsWellFormed (.error e) := by
  intro _ _ h
  cases h

/-- After an operand of any form. -/
theorem yieldsWellFormed_andThen {α : Type} {p : Except DecodeError (α × List Byte)}
    {k : α → List Byte → Except DecodeError (Instr × List Byte)} (h : ∀ a rest, YieldsWellFormed (k a rest)) :
    YieldsWellFormed (andThen p k) := by
  cases p with
  | error e => exact yieldsWellFormed_error e
  | ok r => exact h r.1 r.2

/-- The last operand of an operation without a frame operand. -/
theorem yieldsWellFormed_last {α : Type} {p : Except DecodeError (α × List Byte)} {k : α → Instr}
    (h : ∀ a, (k a).wellFormed = true) : YieldsWellFormed (andThen p fun a rest => .ok (k a, rest)) :=
  yieldsWellFormed_andThen fun a _ => yieldsWellFormed_ok (h a)

/-- A frame operand that was read is a validated frame of its role (R115, R116). -/
theorem decFrame_valid {role : Role} {l rest : List Byte} {f : Frame} (h : decFrame role l = .ok (f, rest)) :
    f.valid role = true := by
  unfold decFrame at h
  cases hv : decVector 22 l with
  | error e => rw [hv, andThen_error] at h; cases h
  | ok r =>
    rw [hv, andThen_ok] at h
    cases h
    simp [Frame.valid]

/-- An operation on a frame, which ends its code: the frame is validated. -/
theorem yieldsWellFormed_frame {role : Role} {l : List Byte} {k : Frame → Instr}
    (h : ∀ f, f.valid role = true → (k f).wellFormed = true) :
    YieldsWellFormed (andThen (decFrame role l) fun f rest => .ok (k f, rest)) := by
  cases hf : decFrame role l with
  | error e => exact yieldsWellFormed_error e
  | ok r => exact yieldsWellFormed_ok (h r.1 (decFrame_valid hf))

theorem decodeGet_yieldsWellFormed (l : List Byte) : YieldsWellFormed (decodeGet l) := by
  refine yieldsWellFormed_andThen fun role l1 => yieldsWellFormed_andThen fun off l2 => ?_
  split
  -- `desiredDemand` carries its reading before the frame (R124).
  case h_5 => exact yieldsWellFormed_andThen fun _ _ => yieldsWellFormed_frame fun _ h => h
  case h_33 => exact yieldsWellFormed_error _
  all_goals exact yieldsWellFormed_frame fun _ h => h

theorem decodeSet_yieldsWellFormed (l : List Byte) : YieldsWellFormed (decodeSet l) := by
  refine yieldsWellFormed_andThen fun role l1 => yieldsWellFormed_andThen fun off l2 => ?_
  split
  -- `desiredDemand` carries its reading before the working copy (R124).
  case h_5 =>
    exact yieldsWellFormed_andThen fun _ _ => yieldsWellFormed_andThen fun _ _ => yieldsWellFormed_last fun _ => rfl
  case h_31 => exact yieldsWellFormed_error _
  all_goals exact yieldsWellFormed_andThen fun _ _ => yieldsWellFormed_last fun _ => rfl

theorem stepRow_wellFormed (st : BusState) (now : Nat) (inp : Inp) : (stepRow st now inp).wellFormed = true := by
  cases st <;> rfl

theorem decodeOp_yieldsWellFormed (st : BusState) (now : Nat) (inp : Inp) (code : List Byte) :
    YieldsWellFormed (decodeOp st now inp code) := by
  cases code with
  | nil => exact yieldsWellFormed_error _
  | cons op l =>
    unfold decodeOp
    simp only
    split
    -- `STEP` is the row of the state it runs in (R151).
    case h_2 => exact yieldsWellFormed_ok (stepRow_wellFormed st now inp)
    case h_3 | h_4 | h_13 | h_14 | h_21 | h_22 | h_27 | h_28 | h_29 | h_30 => exact yieldsWellFormed_ok rfl
    case h_8 | h_15 => exact yieldsWellFormed_andThen fun _ _ => yieldsWellFormed_last fun _ => rfl
    -- `SERIALIZE`: the role read first is the role of the frame (R118).
    case h_9 =>
      refine yieldsWellFormed_andThen fun role _ => yieldsWellFormed_frame fun f h => ?_
      obtain rfl := of_decide_eq_true (Bool.and_eq_true_iff.mp h).1
      exact h
    case h_10 => exact decodeGet_yieldsWellFormed l
    case h_11 => exact decodeSet_yieldsWellFormed l
    case h_12 =>
      exact yieldsWellFormed_andThen fun _ _ => yieldsWellFormed_andThen fun _ _ => yieldsWellFormed_last fun _ => rfl
    -- `CHECK_VOLTS` takes a validated heater frame (R218).
    case h_23 => exact yieldsWellFormed_frame fun _ h => h
    case h_31 => exact yieldsWellFormed_error _
    all_goals exact yieldsWellFormed_last fun _ => rfl

/-- Settles O2: a frame layout has no frame operand, and any other line is what `decodeOp` reads. -/
theorem decodedOperationIsWellFormed : Obligations.DecodedOperationIsWellFormed := by
  intro st l i h
  unfold decode at h
  split at h
  case h_1 role _ =>
    split at h
    · cases h
      cases role <;> rfl
    · cases h
  case h_2 =>
    split at h
    · cases h
    · rename_i hop
      cases h
      exact decodeOp_yieldsWellFormed st l.now l.inp l.code _ _ hop
    · cases h

end Sys2Proof
end

section
/-! PROOFS. `GET` and `SET` of both roles (40_codec_crc.md R116, R117, R119 to R149): each form of `GET` and of `SET` is settled
once, at any offset; a field's statement cites its form at the field's offsets. -/

namespace Sys2Proof.Machine

/-! An operation on an unvalidated frame (R116, R262; entry 13). -/

/-- Settles O11: the ill-formed operations are those with a frame operand, and each asks first whether it is validated. -/
theorem unvalidatedFrameStops : Obligations.UnvalidatedFrameStops := by
  intro i s hi
  cases i with
  | serialize f => exact onFrame_invalid hi
  | checkVolts f inp => exact if_neg (Bool.eq_false_iff.mp hi)
  | getCDesiredDemand f view =>
    unfold exec execGetCDesiredDemand
    cases view <;> exact onFrame_invalid hi
  | getCHeader f | getCLength f | getCCommand f | getCActualTemperature f | getCPumpMinFreq f | getCPumpMaxFreq f
  | getCFanMinRPM f | getCFanMaxRPM f | getCOperatingVoltage f | getCFanSensorSelect f | getCOperatingMode f
  | getCMinTemperature f | getCMaxTemperature f | getCGlowDrive f | getCPrime f | getCReserved f | getCCrc f
  | getHHeader f | getHLength f | getHRunState f | getHErrState f | getHSupplyVoltage f | getHFanRPM f
  | getHFanVoltage f | getHHeatExchgTemp f | getHGlowVoltage f | getHGlowCurrent f | getHActualPumpFreq f
  | getHStoredErrorCode f | getHReserved f | getHCrc f =>
    unfold exec
    exact onFrame_invalid hi
  | _ => cases hi

/-! The forms of `GET` (R116, R117, R119, R123). -/

section
variable {role : Role} {f : Frame} (hf : f.valid role = true) (s : State)
include hf

theorem onFrame_getByte (off : Fin 24) : onFrame role f (fun x => .byte (getByte off x)) s =
    .next { s with events := [], result := .byte f.bytes[off] } := onFrame_eq hf rfl

theorem onFrame_getCount8 (off : Fin 24) : onFrame role f (fun x => .count (getCount8 off x)) s =
    .next { s with events := [], result := .count f.bytes[off].toNat } := onFrame_eq hf rfl

theorem onFrame_getCount16 (hi lo : Fin 24) : onFrame role f (fun x => .count (getCount16 hi lo x)) s =
    .next { s with events := [], result := .count (wide f.bytes hi lo) } :=
  onFrame_eq hf (congrArg Result.count (getCount16_eq_wide hi lo f.bytes))

theorem onFrame_getScaled8 (off : Fin 24) (perUnit : ℚ) :
    onFrame role f (fun x => .physical (getScaled8 off perUnit x)) s =
      .next { s with events := [], result := .physical ((f.bytes[off].toNat : ℚ) / perUnit) } := onFrame_eq hf rfl

theorem onFrame_getScaled16 (hi lo : Fin 24) (perUnit : ℚ) :
    onFrame role f (fun x => .physical (getScaled16 hi lo perUnit x)) s =
      .next { s with events := [], result := .physical ((wide f.bytes hi lo : ℚ) / perUnit) } :=
  onFrame_eq hf (congrArg Result.physical (getScaled16_eq_wide hi lo perUnit f.bytes))

theorem onFrame_degreesOf (signed : Bool) (off : Fin 24) :
    onFrame role f (fun x => .degrees (degreesOf signed (getByte off x))) s = .next { s with
      events := [], result := .degrees (if signed then f.bytes[off].toInt else f.bytes[off].toNat) } :=
  onFrame_eq hf rfl

theorem onFrame_getReserved : onFrame role f (fun x => .quad (getReserved x)) s = .next { s with
    events := [], result := .quad #v[f.bytes[18], f.bytes[19], f.bytes[20], f.bytes[21]] } := onFrame_eq hf rfl

theorem onFrame_storedCrc : onFrame role f (fun x => .crc (storedCrc x)) s =
    .next { s with events := [], result := .crc (f.bytes[22] ++ f.bytes[23]) } := onFrame_eq hf rfl

end

/-! The forms of `SET` (R117, R119, R123). -/

/-- A `SET` whose value does not fit is refused and changes nothing (R117). -/
theorem onCopy_error (e : Refusal) (s : State) : onCopy (.error e) s = .refused e := rfl

theorem onCopy_setCount8_ok {off : Fin 24} {v : Int} {x : Raw} (h : fits8 v) (s : State) :
    onCopy (setCount8 off v x) s = .next { s with events := [], result := .raw (x.set off (BitVec.ofInt 8 v)) } := by
  rw [setCount8_ok h]
  rfl

theorem onCopy_setCount8_refused {off : Fin 24} {v : Int} {x : Raw} (h : ¬ fits8 v) (s : State) :
    onCopy (setCount8 off v x) s = .refused .fieldRange := by
  rw [setCount8_refused h, onCopy_error]

/-- A two-byte count stands in its two bytes and nowhere else (R60, R119). -/
theorem onCopy_setCount16_ok {hi lo : Fin 24} {v : Int} {x : Raw} (h : fits16 v) (hne : hi ≠ lo) (s : State) :
    ∃ y : Raw, onCopy (setCount16 hi lo v x) s = .next { s with events := [], result := .raw y } ∧
      (wide y hi lo : Int) = v ∧ sameExcept [hi.val, lo.val] x y := by
  refine ⟨memWrite2 x hi lo (BitVec.ofInt 16 v), ?_, wide_memWrite2 hne h, memWrite2_sameExcept (by simp) (by simp)⟩
  rw [setCount16_ok h]
  rfl

theorem onCopy_setCount16_refused {hi lo : Fin 24} {v : Int} {x : Raw} (h : ¬ fits16 v) (s : State) :
    onCopy (setCount16 hi lo v x) s = .refused .fieldRange := by
  rw [setCount16_refused h, onCopy_error]

theorem onCopy_setDegrees_ok {off : Fin 24} {signed : Bool} {v : Int} {x : Raw} (h : fitsDegrees signed v)
    (s : State) : onCopy (setDegrees off signed v x) s =
      .next { s with events := [], result := .raw (x.set off (BitVec.ofInt 8 v)) } := by
  rw [setDegrees, (tbyte_ok h).1]
  rfl

theorem onCopy_setDegrees_refused {off : Fin 24} {signed : Bool} {v : Int} {x : Raw} (h : ¬ fitsDegrees signed v)
    (s : State) : onCopy (setDegrees off signed v x) s = .refused .fieldRange := by
  rw [setDegrees, tbyte_refused h]
  rfl

/-- The four reserved bytes read back (R136, R149). -/
theorem getReserved_setReserved (v : Vector Byte 4) (x : Raw) : getReserved (setReserved v x) = v := by
  ext i hi
  obtain rfl | rfl | rfl | rfl : i = 0 ∨ i = 1 ∨ i = 2 ∨ i = 3 := by omega
  all_goals simp [getReserved, setReserved]

theorem setReserved_sameExcept (v : Vector Byte 4) (x : Raw) : sameExcept [18, 19, 20, 21] x (setReserved v x) := by
  intro i hi hn
  simp only [List.mem_cons, List.not_mem_nil, or_false, not_or] at hn
  simp only [setReserved, Vector.getElem_set]
  rw [if_neg (by omega), if_neg (by omega), if_neg (by omega), if_neg (by omega)]

/-- `SET` of the reserved bytes, of either role, stores them and nothing else. -/
theorem onCopy_setReserved (v : Vector Byte 4) (x : Raw) (s : State) :
    ∃ y : Raw, onCopy (.ok (setReserved v x)) s = .next { s with events := [], result := .raw y } ∧
      getReserved y = v ∧ sameExcept [18, 19, 20, 21] x y :=
  ⟨_, rfl, getReserved_setReserved v x, setReserved_sameExcept v x⟩

/-! The controller's fields (R120 to R136). -/

/-- Settles O12: unscaled bytes, and the stored checksum. -/
theorem controllerByteFields : Obligations.ControllerByteFields := by
  refine ⟨fun f s hf => ?_, fun x v s => ⟨rfl, rfl, rfl, rfl, rfl, rfl, rfl⟩⟩
  exact ⟨onFrame_getByte hf s 0, onFrame_getByte hf s 1, onFrame_getByte hf s 2, onFrame_getByte hf s 12,
    onFrame_getByte hf s 13, onFrame_getByte hf s 16, onFrame_getByte hf s 17, onFrame_storedCrc hf s⟩

/-- Settles O13: `TEMP_BYTE_SIGNED` chooses between two readings of one byte, and the range with them. -/
theorem controllerTemperatureFields : Obligations.ControllerTemperatureFields := by
  refine ⟨fun f s hf => ?_, fun x v s => ⟨fun h => ?_, fun h => ?_, fun h => ?_, fun h => ?_⟩⟩
  · exact ⟨onFrame_degreesOf hf s _ 3, onFrame_degreesOf hf s _ 4, onFrame_getCount8 hf s 4⟩
  · exact ⟨_, (tbyte_ok h).2, onCopy_setDegrees_ok h s, onCopy_setDegrees_ok h s⟩
  · exact ⟨onCopy_setDegrees_refused h s, onCopy_setDegrees_refused h s⟩
  · exact ⟨_, ofInt8_toNat h, onCopy_setCount8_ok h s⟩
  · exact onCopy_setCount8_refused h s

/-- Settles O14: a scaled `SET` is the `SET` of the nearest count (R117). -/
theorem controllerScaledFields : Obligations.ControllerScaledFields := by
  refine ⟨fun f s hf => ?_, fun x p s => ⟨fun h => ?_, fun h => ?_⟩⟩
  · exact ⟨onFrame_getScaled8 hf s 5 10, onFrame_getScaled8 hf s 6 10, onFrame_getScaled8 hf s 11 10⟩
  · exact ⟨_, ofInt8_toNat h, onCopy_setCount8_ok h s, onCopy_setCount8_ok h s, onCopy_setCount8_ok h s⟩
  · exact ⟨onCopy_setCount8_refused h s, onCopy_setCount8_refused h s, onCopy_setCount8_refused h s⟩

/-- Settles O15: two counts of two bytes. -/
theorem controllerSpeedFields : Obligations.ControllerSpeedFields := by
  refine ⟨fun f s hf => ?_, fun x v s => ⟨fun h => ?_, fun h => ?_⟩⟩
  · exact ⟨onFrame_getCount16 hf s 7 8, onFrame_getCount16 hf s 9 10⟩
  · exact ⟨onCopy_setCount16_ok h (by decide) s, onCopy_setCount16_ok h (by decide) s⟩
  · exact ⟨onCopy_setCount16_refused h s, onCopy_setCount16_refused h s⟩

/-- Settles O16: two counts of one byte, and the reserved bytes as they are. -/
theorem controllerBoundsAndReserved : Obligations.ControllerBoundsAndReserved := by
  refine ⟨fun f s hf => ?_, fun x v r s => ⟨fun h => ?_, fun h => ?_, onCopy_setReserved r x s⟩⟩
  · exact ⟨onFrame_getCount8 hf s 14, onFrame_getCount8 hf s 15, onFrame_getReserved hf s⟩
  · exact ⟨_, ofInt8_toNat h, onCopy_setCount8_ok h s, onCopy_setCount8_ok h s⟩
  · exact ⟨onCopy_setCount8_refused h s, onCopy_setCount8_refused h s⟩

/-! The heater's fields (R137 to R149). -/

/-- Settles O17: unscaled bytes, the reserved bytes, and the stored checksum. -/
theorem heaterByteFields : Obligations.HeaterByteFields := by
  refine ⟨fun f s hf => ?_, fun x v r s => ⟨rfl, rfl, rfl, rfl, rfl, onCopy_setReserved r x s⟩⟩
  exact ⟨onFrame_getByte hf s 0, onFrame_getByte hf s 1, onFrame_getByte hf s 2, onFrame_getByte hf s 3,
    onFrame_getByte hf s 17, onFrame_getReserved hf s, onFrame_storedCrc hf s⟩

/-- Settles O18: a scaled `SET` is the `SET` of the nearest count, of two bytes or of one (R117). -/
theorem heaterScaledFields : Obligations.HeaterScaledFields := by
  refine ⟨fun f s hf => ?_, fun x p s =>
    ⟨fun h => ?_, fun h => ?_, fun h => ?_, fun h => ?_, fun h => ?_, fun h => ?_⟩⟩
  · exact ⟨onFrame_getScaled16 hf s 4 5 10, onFrame_getScaled16 hf s 8 9 10, onFrame_getScaled16 hf s 12 13 10,
      onFrame_getScaled16 hf s 14 15 100, onFrame_getScaled8 hf s 16 10⟩
  · exact ⟨onCopy_setCount16_ok h (by decide) s, onCopy_setCount16_ok h (by decide) s,
      onCopy_setCount16_ok h (by decide) s⟩
  · exact ⟨onCopy_setCount16_refused h s, onCopy_setCount16_refused h s, onCopy_setCount16_refused h s⟩
  · exact onCopy_setCount16_ok h (by decide) s
  · exact onCopy_setCount16_refused h s
  · exact ⟨_, ofInt8_toNat h, onCopy_setCount8_ok h s⟩
  · exact onCopy_setCount8_refused h s

/-- Settles O19: two counts of two bytes. -/
theorem heaterCountFields : Obligations.HeaterCountFields := by
  refine ⟨fun f s hf => ?_, fun x v s => ⟨fun h => ?_, fun h => ?_⟩⟩
  · exact ⟨onFrame_getCount16 hf s 6 7, onFrame_getCount16 hf s 10 11⟩
  · exact ⟨onCopy_setCount16_ok h (by decide) s, onCopy_setCount16_ok h (by decide) s⟩
  · exact ⟨onCopy_setCount16_refused h s, onCopy_setCount16_refused h s⟩

end Sys2Proof.Machine
end

section
/-! PROOFS. Preparation of a master frame (42_tx_scheduler.md R183; 43_demand_composer.md R200 to R206; 60_exceptions.md R261):
inputs in range have a frame. And the bytes of a parroted frame (R162, R183, R184). -/

namespace Sys2Proof.Machine

/-- The tuning fields in their bytes, when each fits (R183). -/
def tunedBytes (inp : Inp) (x : Raw) : Raw :=
  let x := (x.set 5 (BitVec.ofInt 8 (rnd (inp.pumpMin * 10)))).set 6 (BitVec.ofInt 8 (rnd (inp.pumpMax * 10)))
  let x := memWrite2 (memWrite2 x 7 8 (BitVec.ofInt 16 inp.fanMin)) 9 10 (BitVec.ofInt 16 inp.fanMax)
  setByte 16 inp.glowDrive (setByte 12 inp.sensorSelect (x.set 11 (BitVec.ofInt 8 (rnd (inp.sysVoltage * 10)))))

theorem setTuning_ok {inp : Inp} (h : tuningInRange inp) (x : Raw) : setTuning inp x = .ok (tunedBytes inp x) := by
  obtain ⟨hmin, hmax, hvolts, hfanMin, hfanMax⟩ := h
  simp only [setTuning, setScaled8, setCount8_ok hmin, setCount8_ok hmax, setCount16_ok hfanMin, setCount16_ok hfanMax,
    setCount8_ok hvolts]
  rfl

/-- The tuning fields are bytes 5 to 12 and 16 (R183). -/
theorem tunedBytes_sameExcept (inp : Inp) (x : Raw) :
    sameExcept [5, 6, 7, 8, 9, 10, 11, 12, 16] x (tunedBytes inp x) := by
  intro i hi hn
  simp only [List.mem_cons, List.not_mem_nil, or_false, not_or] at hn
  obtain ⟨h5, h6, h7, h8, h9, h10, h11, h12, h16⟩ := hn
  simp [tunedBytes, setByte, memWrite2, Ne.symm h5, Ne.symm h6, Ne.symm h7, Ne.symm h8, Ne.symm h9, Ne.symm h10,
    Ne.symm h11, Ne.symm h12, Ne.symm h16]

/-- The demand range is read from bytes 14 and 15, and nothing else of the frame matters to the ranges (R203, R261). -/
theorem demandInRange_congr {signed : Bool} {x y : Raw} {inp : Inp} (hlo : y[14] = x[14]) (hhi : y[15] = x[15])
    (h : demandInRange signed x inp) : demandInRange signed y inp := by
  unfold demandInRange
  rw [hlo, hhi]
  exact h

theorem reportTemperature_ok {signed : Bool} {reported desired : Int} (hr : fitsDegrees signed reported)
    (hd : fitsDegrees signed desired) (x : Raw) : ∃ y, reportTemperature signed reported desired x = .ok y := by
  refine ⟨writeDemand modeThermostat (BitVec.ofInt 8 reported) (BitVec.ofInt 8 desired) x, ?_⟩
  simp only [reportTemperature, (tbyte_ok hr).1, (tbyte_ok hd).1]
  rfl

theorem composeLinearHz_ok {inp : Inp} {x : Raw} (hw : 0 < inp.window) (hrange : x[14].toNat ≤ x[15].toNat) :
    ∃ y, composeLinearHz inp x = .ok y := by
  have hdomain : ¬ (inp.window / 2 ≤ 0 ∨ getCount8 14 x > getCount8 15 x) :=
    not_or.mpr ⟨not_le.mpr (half_pos hw), not_lt.mpr hrange⟩
  exact ⟨_, if_neg hdomain⟩

/-- The composer has a result for demand inputs in range (R200, R261). -/
theorem compose_ok {signed : Bool} {inp : Inp} {x : Raw} (h : demandInRange signed x inp) :
    ∃ y, compose signed inp x = .ok y := by
  unfold compose
  cases hthermo : inp.thermoEnable with
  | false => exact ⟨_, rfl⟩
  | true =>
    have hmethod := h hthermo
    cases hm : inp.method with
    | standard =>
      simp only [hm] at hmethod
      obtain ⟨hsensed, hdesired⟩ := hmethod
      exact reportTemperature_ok hsensed hdesired x
    | windowedHysteresis =>
      simp only [hm] at hmethod
      obtain ⟨hreported, hdesired⟩ := hmethod
      exact reportTemperature_ok hreported hdesired x
    | linearHz =>
      simp only [hm] at hmethod
      obtain ⟨hw, hrange⟩ := hmethod
      exact composeLinearHz_ok hw hrange

/-- `SET` of a byte leaves every other byte (R119). -/
theorem setByte_getElem {x : Raw} {v : Byte} {off : Fin 24} {i : Nat} (h : i < 24) (hne : off.val ≠ i) :
    (setByte off v x)[i] = x[i] := by
  simp [setByte, hne]

/-- What a master frame writes before it composes leaves the demand range (R183, R203). -/
theorem demandInRange_tunedBytes {signed : Bool} {basis : Raw} {inp : Inp} (cmd : Byte)
    (h : demandInRange signed basis inp) :
    demandInRange signed (tunedBytes inp (setByte 0 headerActive (setByte 2 cmd basis))) inp := by
  refine demandInRange_congr ?_ ?_ h
  · rw [tunedBytes_sameExcept inp _ 14 (by decide) (by decide), setByte_getElem _ (by decide),
      setByte_getElem _ (by decide)]
  · rw [tunedBytes_sameExcept inp _ 15 (by decide) (by decide), setByte_getElem _ (by decide),
      setByte_getElem _ (by decide)]

/-- `PREPARE_FRAME` answers a master frame for inputs in range: tuning and composing both have a result (R183, R261). -/
theorem prepareFrame_master_ok {cfg : Cfg} {basis : Raw} {inp : Inp} (q : CommandQueue)
    (h : inRange cfg.tempByteSigned basis inp) : ∃ f, prepareFrame cfg q basis true inp = .ok f := by
  obtain ⟨htuning, hdemand⟩ := h
  obtain ⟨y, hy⟩ := compose_ok (demandInRange_tunedBytes (commandByte cfg q) hdemand)
  refine ⟨setCrc y, ?_⟩
  simp only [prepareFrame, if_true, setTuning_ok htuning, bind, Except.bind, hy]
  rfl

/-- A parroted frame is its basis but for the header, the command byte and the checksum (R162, R183, R184). -/
theorem parrot_spec (cmd : Byte) (basis : Raw) :
    (setCrc (setByte 0 headerPassive (setByte 2 cmd basis)))[0] = headerPassive ∧
      (setCrc (setByte 0 headerPassive (setByte 2 cmd basis)))[2] = cmd ∧
      sameExcept [0, 2, 22, 23] basis (setCrc (setByte 0 headerPassive (setByte 2 cmd basis))) := by
  refine ⟨?_, ?_, fun i hi hn => ?_⟩
  · rw [setCrc_getElem _ (by decide)]; simp [setByte]
  · rw [setCrc_getElem _ (by decide), setByte_getElem _ (by decide)]; simp [setByte]
  · simp only [List.mem_cons, List.not_mem_nil, or_false, not_or] at hn
    obtain ⟨h0, h2, h22, h23⟩ := hn
    rw [setCrc_getElem _ (by omega), setByte_getElem hi (Ne.symm h0), setByte_getElem hi (Ne.symm h2)]

end Sys2Proof.Machine
end

section
/-! PROOFS. The bus synchronization state machine, state by state (41_bus_sync.md R150 to R168): each row of `STEP` is its rule
on the state after the poll phase, and the law of each shared operation says what the rule leaves. -/

namespace Sys2Proof.Machine

/-! Bytes, recycles and rows (R150, R151, R154). -/

/-- Settles O21: the meaning is that update. -/
theorem busByteIsQueued : Obligations.BusByteIsQueued := fun _ _ => rfl

/-- Settles O31: the counter is a 32-bit word. -/
theorem recycleOperation : Obligations.RecycleOperation :=
  fun s => ⟨recycle (fresh s), rfl, rfl, BitVec.toNat_add s.recycleCount 1#32⟩

/-- A row of `STEP` in the state that selects it, at a time that has not run back (R151). -/
theorem exec_row {row : BusState} {now : Nat} {s : State} (inp : Inp) (hst : s.st = row) (hc : s.clock ≤ now) :
    exec (stepRow row now inp) s = rowRule row now inp (polled now s) (afterPoll now s) := by
  rw [exec_stepRow, pass_eq hst hc]

/-- Settles O30: each rule is that one move. -/
theorem closingStates : Obligations.ClosingStates := by
  refine fun s now inp hc => ⟨fun hst => ?_, fun hst => ?_⟩
  · exact exec_row (row := .reportSelfExchange) inp hst hc
  · exact exec_row (row := .housekeeping) inp hst hc

/-! `Idle` (R157, R163). -/

theorem idleRule_silent {now : Nat} {inp : Inp} {rx : Rx} {s : State} (h : s.cfg.tSilence < now - s.tLast) :
    idleRule now inp rx s = transmit (selectBasis s) true now inp { s with master := .self } := if_pos h

theorem idleRule_wait {now : Nat} {inp : Inp} {s : State} (h : now - s.tLast ≤ s.cfg.tSilence) :
    idleRule now inp none s = .next s := if_neg (Nat.not_lt.mpr h)

/-- A byte just taken ends the silence; the gap before it decides whether it begins a frame. -/
theorem idleRule_byte {now gap : Nat} {b : Byte} {inp : Inp} {s : State} (h : s.tLast = now) :
    idleRule now inp (some (b, gap)) s =
      if s.cfg.tData < gap then .next { rxStore .oem 0 b s with idx := 1, st := .observeMasterFrame } else .next s := by
  have hrecent : ¬ now - s.tLast > s.cfg.tSilence := by omega
  simp only [idleRule, if_neg hrecent, gt_iff_lt]

/-- Settles O22, branch by branch; a promotion in range has a frame by `prepareFrame_master_ok`. -/
theorem idleRule_holds : Obligations.IdleRule := by
  intro s now inp hst hc
  have hrow : exec (.stepIdle now inp) s = idleRule now inp (polled now s) (afterPoll now s) :=
    exec_row (row := .idle) inp hst hc
  refine ⟨fun p hp => by simp only [selectBasis, hp], fun hp => by simp only [selectBasis, hp], ?_, ?_, ?_⟩
  · intro hfifo hsilent hidle hrange
    obtain ⟨f, hf⟩ := prepareFrame_master_ok s.cq hrange
    refine ⟨f, hf, ?_⟩
    rw [hrow, idleRule_silent (by rwa [afterPoll_tLast_nil hfifo])]
    exact transmit_eq (s := { afterPoll now s with master := .self }) hf hidle
  · intro hfifo hquiet
    rw [hrow, polled_nil hfifo]
    exact idleRule_wait (by rwa [afterPoll_tLast_nil hfifo])
  · intro b rest hfifo
    rw [hrow, polled_cons hfifo, idleRule_byte (afterPoll_tLast_cons hfifo)]
    refine ⟨fun hgap => ?_, fun hgap => if_neg (Nat.not_lt.mpr hgap)⟩
    rw [afterPoll_cfg, if_pos hgap, rxStore_eq (by decide)]
    rfl

/-! The collecting states (R155, R156, R158, R160, R165). -/

/-- A collecting row collects into its own buffer, and is a heater wait unless that is the OEM controller's. -/
theorem exec_collector {w : RxBuf} {s : State} {now : Nat} (inp : Inp) (hst : s.st = collectsIn w) (hc : s.clock ≤ now) :
    exec (collector w now inp) s =
      .next (collect w (completesTo w) (decide (w ≠ .oem)) now (polled now s) (afterPoll now s)) := by
  cases w with
  | oem => exact exec_row (row := .observeMasterFrame) inp hst hc
  | hm => exact exec_row (row := .awaitHeaterReplyToMaster) inp hst hc
  | hs => exact exec_row (row := .awaitHeaterReplyToSelf) inp hst hc

/-- Settles O23, from the laws of collection with a byte and without. -/
theorem collectingStoresOneByte : Obligations.CollectingStoresOneByte := by
  intro w s now inp hst hc
  rw [exec_collector inp hst hc]
  refine ⟨fun b rest hroom hfifo => ?_, fun hfifo hquiet => ?_⟩
  · rw [polled_cons hfifo, collect_byte, afterPoll_idx, rxStore_eq hroom]
    cases w <;> rfl
  · rw [polled_nil hfifo, collect_wait (by rwa [afterPoll_tLast_nil hfifo])]

/-- The log line is due when there was none within `T_LOG_MOD` (R270). -/
theorem logTimeout_due {now : Nat} {s : State} (h : s.tLog = none ∨ ∃ t, s.tLog = some t ∧ t + 10 ≤ now) :
    logTimeout now s = { s with tLog := some now, events := s.events ++ [.logTimeout] } := by
  obtain ⟨-, he⟩ | ⟨⟨u, hu, hrecent⟩, -⟩ := logTimeout_cases now s
  · exact he
  · obtain hnone | ⟨t, ht, hold⟩ := h
    · exact absurd (hnone.symm.trans hu) nofun
    · cases ht.symm.trans hu
      omega

/-- Within `T_LOG_MOD` of the last one the log line is left out (R270). -/
theorem logTimeout_recent {now t : Nat} {s : State} (ht : s.tLog = some t) (h : now < t + 10) :
    logTimeout now s = s := by
  have hmod : ¬ now - t ≥ tLogMod := by unfold tLogMod; omega
  simp only [logTimeout, ht, if_neg hmod]

/-- A timeout as one update, around its moderated log (R156, R265). -/
theorem timeout_eq (w : Bool) (now : Nat) (s : State) : timeout w now s = { s with
    tLog := (logTimeout now s).tLog, heaterResponding := s.heaterResponding && !w
    events := (logTimeout now s).events ++ [.frameCollectionTimeout s.st s.idx, .recycle], rxFifo := [], idx := 0
    recycleCount := s.recycleCount + 1#32, st := .housekeeping } := by
  rw [timeout, recover_eq]
  obtain ⟨-, he⟩ | ⟨-, he⟩ := logTimeout_cases now s <;> rw [he]

/-- A collecting pass on a silent bus, too late for its frame. -/
theorem exec_collector_timeout {w : RxBuf} {s : State} {now : Nat} (inp : Inp) (hst : s.st = collectsIn w)
    (hc : s.clock ≤ now) (hfifo : s.rxFifo = []) (hlate : s.cfg.tData < now - s.tLast) :
    exec (collector w now inp) s = .next { afterPoll now s with
      tLog := (logTimeout now (afterPoll now s)).tLog
      heaterResponding := if w = .oem then s.heaterResponding else false
      events := (logTimeout now (afterPoll now s)).events ++ [.frameCollectionTimeout s.st s.idx, .recycle]
      idx := 0, recycleCount := s.recycleCount + 1#32, st := .housekeeping } := by
  rw [exec_collector inp hst hc, polled_nil hfifo, collect_timeout (by rwa [afterPoll_tLast_nil hfifo]), timeout_eq]
  cases w <;> simp [hfifo]

/-- Settles O24: only the log line depends on `tLog`. -/
theorem collectionTimeout : Obligations.CollectionTimeout := by
  intro w s now inp hst hc hfifo hlate
  rw [exec_collector_timeout inp hst hc hfifo hlate]
  refine ⟨fun hdue => ?_, fun t ht hrecent => ?_⟩
  · rw [logTimeout_due (s := afterPoll now s) hdue]
    rfl
  · rw [logTimeout_recent (s := afterPoll now s) ht hrecent]
    rfl

/-! The validate states (R159, R161, R166). -/

theorem validateMasterRule_good {now : Nat} {s : State} (h : verifyCrc s.bufOEM = true) :
    validateMasterRule now s = { s with
      pubOEM := some ⟨⟨s.bufOEM, .controller⟩, now⟩, oemKind := classifyOem s.bufOEM[0], master := .oem, idx := 0
      st := .awaitHeaterReplyToMaster } := by
  simp only [validateMasterRule, parse_eq_some.mpr ⟨h, rfl⟩]

theorem validateMasterRule_bad {now : Nat} {s : State} (h : verifyCrc s.bufOEM = false) :
    validateMasterRule now s = recover false (.frameCrcMismatch s.bufOEM) s := by
  simp only [validateMasterRule, parse_eq_none.mpr h]

theorem validateReplyToMasterRule_good {now : Nat} {inp : Inp} {s : State} (h : verifyCrc s.bufHM = true) :
    validateReplyToMasterRule now inp s =
      { acceptReply ⟨s.bufHM, .heater⟩ now inp s with tReport := now, st := .reportMasterExchange } := by
  simp only [validateReplyToMasterRule, parse_eq_some.mpr ⟨h, rfl⟩]

theorem validateReplyToMasterRule_bad {now : Nat} {inp : Inp} {s : State} (h : verifyCrc s.bufHM = false) :
    validateReplyToMasterRule now inp s = recover true (.frameCrcMismatch s.bufHM) s := by
  simp only [validateReplyToMasterRule, parse_eq_none.mpr h]

theorem validateReplyToSelfRule_good {now : Nat} {inp : Inp} {s : State} (h : verifyCrc s.bufHS = true) :
    validateReplyToSelfRule now inp s =
      { acceptReply ⟨s.bufHS, .heater⟩ now inp s with st := .reportSelfExchange } := by
  simp only [validateReplyToSelfRule, parse_eq_some.mpr ⟨h, rfl⟩]

theorem validateReplyToSelfRule_bad {now : Nat} {inp : Inp} {s : State} (h : verifyCrc s.bufHS = false) :
    validateReplyToSelfRule now inp s = recover true (.frameCrcMismatch s.bufHS) s := by
  simp only [validateReplyToSelfRule, parse_eq_none.mpr h]

/-- Recovery of a heater reply, on the state after the poll phase. -/
theorem recover_afterPoll_reply (err : Event) (now : Nat) (s : State) : recover true err (afterPoll now s) =
    { afterPoll now s with
      events := [err, .recycle], heaterResponding := false, rxFifo := [], idx := 0
      recycleCount := s.recycleCount + 1#32, st := .housekeeping } := by
  rw [recover_eq, Bool.not_true, Bool.and_false]
  rfl

/-- Settles O25: the frame verifies, or recovery leaves `heaterResponding` and `master`. -/
theorem validateMasterFrame : Obligations.ValidateMasterFrame := by
  intro s now inp hst hc
  rw [show exec (.stepValidateMasterFrame now inp) s = .next (validateMasterRule now (afterPoll now s)) from
    exec_row (row := .validateMasterFrame) inp hst hc]
  refine ⟨fun hgood => ?_, fun hbad => ?_⟩
  · rw [validateMasterRule_good (s := afterPoll now s) hgood]
    rfl
  · rw [validateMasterRule_bad (s := afterPoll now s) hbad, recover_eq, Bool.not_false, Bool.and_true]
    rfl

/-- Settles O26, by the law of an accepted reply and that of recovery. -/
theorem validateHeaterReplyToMaster : Obligations.ValidateHeaterReplyToMaster := by
  intro s now inp hst hc
  rw [show exec (.stepValidateHeaterReplyToMaster now inp) s =
    .next (validateReplyToMasterRule now inp (afterPoll now s)) from
      exec_row (row := .validateHeaterReplyToMaster) inp hst hc]
  refine ⟨fun hgood => ?_, fun hbad => ?_⟩
  · rw [validateReplyToMasterRule_good (s := afterPoll now s) hgood, acceptReply_eq]
    rfl
  · rw [validateReplyToMasterRule_bad (s := afterPoll now s) hbad, recover_afterPoll_reply]
    rfl

/-- Settles O27, by the same two laws. -/
theorem validateHeaterReplyToSelf : Obligations.ValidateHeaterReplyToSelf := by
  intro s now inp hst hc
  rw [show exec (.stepValidateHeaterReplyToSelf now inp) s =
    .next (validateReplyToSelfRule now inp (afterPoll now s)) from
      exec_row (row := .validateHeaterReplyToSelf) inp hst hc]
  refine ⟨fun hgood => ?_, fun hbad => ?_⟩
  · rw [validateReplyToSelfRule_good (s := afterPoll now s) hgood, acceptReply_eq]
    rfl
  · rw [validateReplyToSelfRule_bad (s := afterPoll now s) hbad, recover_afterPoll_reply]
    rfl

/-! The transmitting states (R162, R164). -/

theorem reportMasterRule_due {now : Nat} {inp : Inp} {s : State} {p : Stamped}
    (h : s.cfg.tReportDelay ≤ now - s.tReport) (hp : s.pubOEM = some p) :
    reportMasterRule now inp s = transmit p.frame.bytes false now inp s := by
  simp only [reportMasterRule, ge_iff_le, if_pos h, hp]

theorem reportMasterRule_early {now : Nat} {inp : Inp} {s : State} (h : now - s.tReport < s.cfg.tReportDelay) :
    reportMasterRule now inp s = .next s := if_neg (Nat.not_le.mpr h)

/-- Settles O28: a parroted frame needs nothing of the inputs, and its bytes are those of `parrot_spec`. -/
theorem reportMasterExchange : Obligations.ReportMasterExchange := by
  intro s now inp p hst hc hp hidle
  rw [show exec (.stepReportMasterExchange now inp) s = reportMasterRule now inp (afterPoll now s) from
    exec_row (row := .reportMasterExchange) inp hst hc]
  refine ⟨fun hdue => ?_, fun hearly => reportMasterRule_early hearly⟩
  have hf := prepareFrame_parrot s.cfg.toCfg s.cq p.frame.bytes inp
  obtain ⟨hheader, hcommand, hrest⟩ := parrot_spec (commandByte s.cfg.toCfg s.cq) p.frame.bytes
  refine ⟨_, ?_, prepareFrame_verifies hf, hheader, hcommand, hrest⟩
  exact (reportMasterRule_due (s := afterPoll now s) hdue hp).trans (transmit_eq hf hidle)

/-- Settles O29: the rule adds to `TX_CHECK` only what follows its end. -/
theorem transmitSelfRule_holds : Obligations.TransmitSelfRule := by
  intro s now inp t hst hc htx
  rw [show exec (.stepTransmitSelf now inp) s = .next (transmitSelfRule now (afterPoll now s)) from
    exec_row (row := .transmitSelf) inp hst hc]
  have hcheck := txCheck_eq (now := now) (s := afterPoll now s) htx
  have hprogress := txProgress_eq (now := now) (s := afterPoll now s) htx
  refine ⟨_, rfl, fun hbusy => ?_, fun hdone => ?_⟩
  · have hbusy' : ¬ (afterPoll now s).cfg.tFrameTime < now - t := Nat.not_lt.mpr hbusy
    simp only [transmitSelfRule, hprogress, hcheck, if_neg hbusy', ← htx]
    rfl
  · have hdone' : (afterPoll now s).cfg.tFrameTime < now - t := hdone
    simp only [transmitSelfRule, hprogress, hcheck, if_pos hdone']
    rfl

end Sys2Proof.Machine
end

section
/-! PROOFS. Passes as a whole (41_bus_sync.md R151, R171, R172): every pass on inputs in range has a next state, a rule that
stores no byte leaves the receive path, and on a silent bus the engine descends to `Idle`. -/

namespace Sys2Proof.Machine

/-! Completion (R151, R261). -/

theorem transmit_completes {basis f : Raw} {m : Bool} {now : Nat} {inp : Inp} {s : State}
    (h : prepareFrame s.cfg.toCfg s.cq basis m inp = .ok f) :
    ∃ t, transmit basis m now inp s = .next t ∧ t.st = .transmitSelf := by
  simp only [transmit, h]
  exact ⟨_, rfl, rfl⟩

theorem idleRule_completes {now : Nat} {inp : Inp} (rx : Rx) {s : State}
    (h : inRange s.cfg.tempByteSigned (selectBasis s) inp) : ∃ t, idleRule now inp rx s = .next t := by
  by_cases hsilent : s.cfg.tSilence < now - s.tLast
  · rw [idleRule_silent hsilent]
    obtain ⟨f, hf⟩ := prepareFrame_master_ok s.cq h
    obtain ⟨t, ht, -⟩ := transmit_completes (now := now) (s := { s with master := .self }) hf
    exact ⟨t, ht⟩
  · simp only [idleRule, gt_iff_lt, if_neg hsilent]
    split
    next b gap =>
      split
      · exact ⟨_, rfl⟩
      · exact ⟨_, rfl⟩
    next => exact ⟨_, rfl⟩

theorem reportMasterRule_completes {now : Nat} {inp : Inp} {s : State} (h : s.pubOEM.isSome = true) :
    ∃ t, reportMasterRule now inp s = .next t := by
  obtain ⟨p, hp⟩ := Option.isSome_iff_exists.mp h
  by_cases hdue : s.cfg.tReportDelay ≤ now - s.tReport
  · rw [reportMasterRule_due hdue hp]
    obtain ⟨t, ht, -⟩ := transmit_completes (now := now) (prepareFrame_parrot s.cfg.toCfg s.cq p.frame.bytes inp)
    exact ⟨t, ht⟩
  · exact ⟨s, reportMasterRule_early (Nat.not_le.mp hdue)⟩

/-- Settles O33: only the two rules that prepare a frame could stop; `Idle` has inputs in range, and `ReportMasterExchange`
the OEM frame of its exchange. -/
theorem everyPassCompletes : Obligations.EveryPassCompletes := by
  intro s now inp hs hc hrange
  rw [exec_pass hc]
  cases hst : s.st with
  | idle => exact idleRule_completes (s := afterPoll now s) _ hrange
  | reportMasterExchange => exact reportMasterRule_completes (s := afterPoll now s) (hs.observed (by rw [hst]; rfl))
  | observeMasterFrame | validateMasterFrame | awaitHeaterReplyToMaster | validateHeaterReplyToMaster | transmitSelf
  | awaitHeaterReplyToSelf | validateHeaterReplyToSelf | reportSelfExchange | housekeeping => exact ⟨_, rfl⟩

/-! What a rule that stores no byte does to the receive path (R151, R154, R171). -/

/-- The buffers and the clock stay; bus activity is unchanged or the end of a transmission; the FIFO is unchanged or
recycled. -/
structure KeepsReceive (now : Nat) (s t : State) : Prop where
  bufOEM : t.bufOEM = s.bufOEM
  bufHM : t.bufHM = s.bufHM
  bufHS : t.bufHS = s.bufHS
  clock : t.clock = s.clock
  tLast : t.tLast = s.tLast ∨ t.tLast = now
  rxFifo : t.rxFifo = s.rxFifo ∨ (t.rxFifo = [] ∧ Event.recycle ∈ t.events)

theorem KeepsReceive.refl (now : Nat) (s : State) : KeepsReceive now s s :=
  ⟨rfl, rfl, rfl, rfl, .inl rfl, .inl rfl⟩

theorem recover_keepsReceive (now : Nat) (w : Bool) (err : Event) (s : State) : KeepsReceive now s (recover w err s) :=
  ⟨rfl, rfl, rfl, rfl, .inl rfl, .inr ⟨rfl, by simp⟩⟩

theorem timeout_keepsReceive (now : Nat) (w : Bool) (s : State) : KeepsReceive now s (timeout w now s) := by
  rw [timeout_eq]
  exact ⟨rfl, rfl, rfl, rfl, .inl rfl, .inr ⟨rfl, by simp⟩⟩

theorem collect_none_keepsReceive (now : Nat) (w : RxBuf) (next : BusState) (hw : Bool) (s : State) :
    KeepsReceive now s (collect w next hw now none s) := by
  by_cases hlate : s.cfg.tData < now - s.tLast
  · rw [collect_timeout hlate]
    exact timeout_keepsReceive now hw s
  · rw [collect_wait (Nat.not_lt.mp hlate)]
    exact .refl now s

theorem acceptReply_keepsReceive (f : Frame) (now : Nat) (inp : Inp) (s : State) :
    KeepsReceive now s (acceptReply f now inp s) := by
  rw [acceptReply_eq]
  exact ⟨by simp, by simp, by simp, by simp, .inl (by simp), .inl (by simp)⟩

theorem transmit_keepsReceive {basis : Raw} {m : Bool} {now : Nat} {inp : Inp} {s t : State}
    (h : transmit basis m now inp s = .next t) : KeepsReceive now s t := by
  obtain ⟨f, -, rfl⟩ := transmit_next h
  exact ⟨by simp, by simp, by simp, by simp, .inl (by simp), .inl (by simp)⟩

theorem validateMasterRule_keepsReceive (now : Nat) (s : State) : KeepsReceive now s (validateMasterRule now s) := by
  cases hv : verifyCrc s.bufOEM with
  | true => rw [validateMasterRule_good hv]; exact { KeepsReceive.refl now s with }
  | false => rw [validateMasterRule_bad hv]; exact recover_keepsReceive now _ _ s

theorem validateReplyToMasterRule_keepsReceive (now : Nat) (inp : Inp) (s : State) :
    KeepsReceive now s (validateReplyToMasterRule now inp s) := by
  cases hv : verifyCrc s.bufHM with
  | true => rw [validateReplyToMasterRule_good hv]; exact { acceptReply_keepsReceive _ now inp s with }
  | false => rw [validateReplyToMasterRule_bad hv]; exact recover_keepsReceive now _ _ s

theorem validateReplyToSelfRule_keepsReceive (now : Nat) (inp : Inp) (s : State) :
    KeepsReceive now s (validateReplyToSelfRule now inp s) := by
  cases hv : verifyCrc s.bufHS with
  | true => rw [validateReplyToSelfRule_good hv]; exact { acceptReply_keepsReceive _ now inp s with }
  | false => rw [validateReplyToSelfRule_bad hv]; exact recover_keepsReceive now _ _ s

theorem transmitSelfRule_keepsReceive (now : Nat) (s : State) : KeepsReceive now s (transmitSelfRule now s) := by
  obtain ⟨-, he⟩ | ⟨-, he⟩ := transmitSelfRule_cases now s
  · rw [he]
    exact ⟨by simp, by simp, by simp, by simp, .inr rfl, .inl (by simp)⟩
  · rw [he]
    exact ⟨by simp, by simp, by simp, by simp, .inl (by simp), .inl (by simp)⟩

theorem idleRule_none_keepsReceive {now : Nat} {inp : Inp} {s t : State} (h : idleRule now inp none s = .next t) :
    KeepsReceive now s t := by
  by_cases hsilent : s.cfg.tSilence < now - s.tLast
  · rw [idleRule_silent hsilent] at h
    exact { transmit_keepsReceive h with }
  · rw [idleRule_wait (Nat.not_lt.mp hsilent)] at h
    cases h
    exact .refl now s

theorem reportMasterRule_keepsReceive {now : Nat} {inp : Inp} {s t : State}
    (h : reportMasterRule now inp s = .next t) : KeepsReceive now s t := by
  by_cases hdue : s.cfg.tReportDelay ≤ now - s.tReport
  · cases hp : s.pubOEM with
    | none => simp [reportMasterRule, hdue, hp] at h
    | some p => exact transmit_keepsReceive ((reportMasterRule_due hdue hp).symm.trans h)
  · rw [reportMasterRule_early (Nat.not_le.mp hdue)] at h
    cases h
    exact .refl now s

/-- Without a byte, or in a state without a buffer, no rule stores one. -/
theorem rowRule_keepsReceive {row : BusState} {now : Nat} {inp : Inp} {rx : Rx} {s t : State}
    (hrx : rx = none ∨ (row ≠ .idle ∧ collecting row = false)) (h : rowRule row now inp rx s = .next t) :
    KeepsReceive now s t := by
  cases row with
  | idle =>
    obtain rfl | ⟨hne, -⟩ := hrx
    · exact idleRule_none_keepsReceive h
    · exact absurd rfl hne
  | observeMasterFrame | awaitHeaterReplyToMaster | awaitHeaterReplyToSelf =>
    obtain rfl | ⟨-, hno⟩ := hrx
    · cases h
      exact collect_none_keepsReceive now _ _ _ s
    · cases hno
  | validateMasterFrame => cases h; exact validateMasterRule_keepsReceive now s
  | validateHeaterReplyToMaster => cases h; exact validateReplyToMasterRule_keepsReceive now inp s
  | reportMasterExchange => exact reportMasterRule_keepsReceive h
  | transmitSelf => cases h; exact transmitSelfRule_keepsReceive now s
  | validateHeaterReplyToSelf => cases h; exact validateReplyToSelfRule_keepsReceive now inp s
  | reportSelfExchange | housekeeping => cases h; exact { KeepsReceive.refl now s with }

/-- Settles O35: the poll phase took the byte and set `tLast`, and the rule keeps the receive path. -/
theorem byteWithoutBufferIsDropped : Obligations.ByteWithoutBufferIsDropped := by
  intro s t now inp b rest hidle hno hfifo h
  rw [exec_stepRow] at h
  obtain ⟨-, -, hr⟩ := pass_next h
  have hkeep := rowRule_keepsReceive (.inr ⟨hidle, hno⟩) hr
  have hrest : (afterPoll now s).rxFifo = rest := by rw [afterPoll_rxFifo, hfifo, List.tail_cons]
  refine ⟨hkeep.bufOEM, hkeep.bufHM, hkeep.bufHS, ?_, hrest ▸ hkeep.rxFifo⟩
  exact hkeep.tLast.elim (fun hsame => hsame.trans (afterPoll_tLast_cons hfifo)) id

/-! The way back to `Idle` (R172). -/

/-- How many passes lie between a state and `Idle`, at most, when no byte arrives and every wait is over. -/
def passesToIdle (st : BusState) : Nat :=
  match st with
  | .idle => 0
  | .housekeeping => 1
  | .observeMasterFrame | .awaitHeaterReplyToMaster | .awaitHeaterReplyToSelf | .reportSelfExchange => 2
  | .validateMasterFrame | .transmitSelf | .validateHeaterReplyToSelf => 3
  | .reportMasterExchange => 4
  | .validateHeaterReplyToMaster => 5

theorem passesToIdle_le (st : BusState) : passesToIdle st ≤ 5 := by
  cases st <;> decide

theorem idle_of_passesToIdle {st : BusState} (h : passesToIdle st = 0) : st = .idle := by
  cases st with
  | idle => rfl
  | observeMasterFrame | validateMasterFrame | awaitHeaterReplyToMaster | validateHeaterReplyToMaster
  | reportMasterExchange | transmitSelf | awaitHeaterReplyToSelf | validateHeaterReplyToSelf | reportSelfExchange
  | housekeeping => cases h

/-- Every wait of the engine is over at `now`. -/
structure WaitsOver (now : Nat) (s : State) : Prop where
  data : s.cfg.tData < now - s.tLast
  report : s.cfg.tReportDelay ≤ now - s.tReport
  frame : ∀ t, s.txStart = some t → s.cfg.tFrameTime < now - t

theorem waitsOver_of_longPause {s : State} {now : Nat} (hs : StateInv s) (h : s.clock + longPause s.cfg.toCfg ≤ now) :
    WaitsOver now s := by
  unfold longPause at h
  have hlast := hs.tLastPast
  have hreport := hs.tReportPast
  refine ⟨by omega, by omega, fun t ht => ?_⟩
  have hstart := hs.txStartPast t ht
  omega

theorem descends_to {a : BusState} {t : State} (b : BusState) (ht : t.st = b) (h : passesToIdle b < passesToIdle a) :
    passesToIdle t.st < passesToIdle a := ht ▸ h

/-- Out of `Idle`, with every wait over and no byte, a rule moves one pass closer at least. -/
theorem rowRule_descends {now : Nat} {inp : Inp} {s : State} (hs : EngineInv s) (hw : WaitsOver now s)
    (hne : s.st ≠ .idle) :
    ∃ t, rowRule s.st now inp none s = .next t ∧ passesToIdle t.st < passesToIdle s.st := by
  cases hst : s.st with
  | idle => exact absurd hst hne
  | observeMasterFrame | awaitHeaterReplyToMaster | awaitHeaterReplyToSelf =>
    refine ⟨_, rfl, ?_⟩
    rw [collect_timeout hw.data]
    exact descends_to .housekeeping rfl (by decide)
  | validateMasterFrame =>
    refine ⟨_, rfl, ?_⟩
    cases hv : verifyCrc s.bufOEM with
    | true => rw [validateMasterRule_good hv]; exact descends_to .awaitHeaterReplyToMaster rfl (by decide)
    | false => rw [validateMasterRule_bad hv]; exact descends_to .housekeeping rfl (by decide)
  | validateHeaterReplyToMaster =>
    refine ⟨_, rfl, ?_⟩
    cases hv : verifyCrc s.bufHM with
    | true => rw [validateReplyToMasterRule_good hv]; exact descends_to .reportMasterExchange rfl (by decide)
    | false => rw [validateReplyToMasterRule_bad hv]; exact descends_to .housekeeping rfl (by decide)
  | validateHeaterReplyToSelf =>
    refine ⟨_, rfl, ?_⟩
    cases hv : verifyCrc s.bufHS with
    | true => rw [validateReplyToSelfRule_good hv]; exact descends_to .reportSelfExchange rfl (by decide)
    | false => rw [validateReplyToSelfRule_bad hv]; exact descends_to .housekeeping rfl (by decide)
  | reportMasterExchange =>
    obtain ⟨p, hp⟩ := Option.isSome_iff_exists.mp (hs.observed (by rw [hst]; rfl))
    obtain ⟨t, ht, htst⟩ := transmit_completes (now := now) (prepareFrame_parrot s.cfg.toCfg s.cq p.frame.bytes inp)
    exact ⟨t, (reportMasterRule_due hw.report hp).trans ht, descends_to .transmitSelf htst (by decide)⟩
  | transmitSelf =>
    obtain ⟨u, hu⟩ := Option.isSome_iff_exists.mp (hs.cycleIffTransmit.mpr hst)
    have hdone : txProgress now s = .done := by rw [txProgress_eq hu, if_pos (hw.frame u hu)]
    refine ⟨_, rfl, ?_⟩
    obtain ⟨-, he⟩ | ⟨hbusy, -⟩ := transmitSelfRule_cases now s
    · rw [he]; exact descends_to .awaitHeaterReplyToSelf rfl (by decide)
    · cases hdone.symm.trans hbusy
  | reportSelfExchange => exact ⟨_, rfl, descends_to .housekeeping rfl (by decide)⟩
  | housekeeping => exact ⟨_, rfl, descends_to .idle rfl (by decide)⟩

theorem stepRow_byAgent (row : BusState) (now : Nat) (inp : Inp) : byAgent (stepRow row now inp) = true := by
  cases row <;> rfl

/-- One late pass on a silent bus: it completes, moves closer to `Idle`, and leaves what the next pass needs. -/
theorem silentPass_descends {s : State} {now : Nat} (inp : Inp) (hs : EngineInv s) (hfifo : s.rxFifo = [])
    (hlate : s.clock + longPause s.cfg.toCfg ≤ now) (hne : s.st ≠ .idle) :
    ∃ t, exec (stepRow s.st now inp) s = .next t ∧ passesToIdle t.st < passesToIdle s.st ∧
      EngineInv t ∧ t.rxFifo = [] ∧ t.clock = now ∧ t.cfg = s.cfg := by
  have hc : s.clock ≤ now := by omega
  obtain ⟨hdata, hreport, hframe⟩ := waitsOver_of_longPause hs.toStateInv hlate
  have hwaits : WaitsOver now (afterPoll now s) := ⟨by rwa [afterPoll_tLast_nil hfifo], hreport, hframe⟩
  obtain ⟨t, hr, hless⟩ := rowRule_descends (inp := inp) (afterPoll_keeps_engineInv hs hc) hwaits hne
  rw [afterPoll_st] at hr hless
  have hexec : exec (stepRow s.st now inp) s = .next t := by rw [exec_pass hc, polled_nil hfifo, hr]
  have hkeep := rowRule_keepsReceive (.inl rfl) hr
  have hempty : (afterPoll now s).rxFifo = [] := by rw [afterPoll_rxFifo, hfifo, List.tail_nil]
  obtain ⟨hcfg, -⟩ := (rowRule_did (afterPoll_st now s) hr).config_eq
  exact ⟨t, hexec, hless, agentsKeepEngineInvariant _ _ _ (stepRow_byAgent _ _ _) hs hexec,
    hkeep.rxFifo.elim (fun hsame => hsame.trans hempty) And.left, hkeep.clock, hcfg⟩

/-- A first pass and the passes after it. -/
theorem passes_cons {s s' : State} {now : Nat} {inp : Inp} {rest : List (Nat × Inp)}
    (h : exec (stepRow s.st now inp) s = .next s') : passes ((now, inp) :: rest) s = passes rest s' := by
  simp only [passes, h]

/-- As many late passes as the state is away from `Idle` reach it. -/
theorem silentPasses_reach_idle {l : List (Nat × Inp)} : ∀ {s : State}, EngineInv s → s.rxFifo = [] →
    passesToIdle s.st ≤ l.length → spaced (longPause s.cfg.toCfg) s.clock l →
    ∃ k, k ≤ l.length ∧ ∃ t, passes (l.take k) s = .next t ∧ t.st = .idle := by
  induction l with
  | nil =>
    intro s _ _ hlen _
    exact ⟨0, le_rfl, s, rfl, idle_of_passesToIdle (Nat.le_zero.mp hlen)⟩
  | cons pass rest ih =>
    obtain ⟨now, inp⟩ := pass
    intro s hs hfifo hlen hspaced
    obtain ⟨hlate, hrest⟩ := hspaced
    by_cases hidle : s.st = .idle
    · exact ⟨0, Nat.zero_le _, s, rfl, hidle⟩
    · obtain ⟨s', hexec, hless, hs', hfifo', hclock, hcfg⟩ := silentPass_descends inp hs hfifo hlate hidle
      rw [List.length_cons] at hlen
      obtain ⟨k, hk, t, hpasses, ht⟩ := ih hs' hfifo' (by omega) (by rwa [hcfg, hclock])
      exact ⟨k + 1, Nat.succ_le_succ hk, t, by rwa [List.take_succ_cons, passes_cons hexec], ht⟩

/-- Settles O37: no state is more than five passes away. -/
theorem returnToIdle : Obligations.ReturnToIdle := by
  intro s l hs hfifo hlen hspaced
  exact hlen ▸ silentPasses_reach_idle hs hfifo (hlen ▸ passesToIdle_le s.st) hspaced

end Sys2Proof.Machine
end

section
/-! PROOFS. The scheduler's operations and `PREPARE_FRAME` on its own (42_tx_scheduler.md R181 to R184; 43_demand_composer.md
R200 to R206; 60_exceptions.md R261, R262): start and check at a time that has not run back, and the bytes of a prepared
frame or the name of its refusal. -/

namespace Sys2Proof.Machine

/-! `TX_START` and `TX_CHECK` (R181, R182). -/

/-- `TX_START` at a time that has not run back (R11, R181). -/
theorem exec_txStart {now : Nat} {s : State} (hc : s.clock ≤ now) :
    exec (.txStart now) s = .next (txStart now { fresh s with clock := now }) := by
  simp only [exec, execTxStart, tick_eq hc]

/-- Settles O40: the two cases of `TX_START`, in the state that takes its time. -/
theorem txStartOperation : Obligations.TxStartOperation := by
  intro now s hc
  rw [exec_txStart hc]
  obtain ⟨hnone, he⟩ | ⟨⟨u, hu⟩, he⟩ := txStart_cases now { fresh s with clock := now }
  · exact ⟨fun _ => congrArg _ he, fun t ht => absurd (hnone.symm.trans ht) nofun⟩
  · exact ⟨fun hn => absurd (hu.symm.trans hn) nofun, fun _ _ => congrArg _ he⟩

/-- `TX_CHECK` at a time that has not run back, with its report (R11, R182). -/
theorem exec_txCheck {now : Nat} {s : State} (hc : s.clock ≤ now) :
    exec (.txCheck now) s = .next { txCheck now { fresh s with clock := now } with
      result := .tx (txProgress now { fresh s with clock := now }) } := by
  simp only [exec, execTxCheck, tick_eq hc]

/-- Without a cycle `TX_CHECK` leaves the sticky reason (R262 (b)). -/
theorem txCheck_eq_of_none {s : State} (now : Nat) (h : s.txStart = none) :
    txCheck now s = { s with fault := some .checkWithoutStart } := by
  simp only [txCheck, h]

/-- Without a cycle `TX_CHECK` reports done (R262 (b)). -/
theorem txProgress_eq_of_none {s : State} (now : Nat) (h : s.txStart = none) : txProgress now s = .done := by
  simp only [txProgress, h]

/-- Settles O41: no cycle, or the three clauses of `txCheck_eq` on an empty output list. -/
theorem txCheckOperation : Obligations.TxCheckOperation := by
  intro now s hc
  rw [exec_txCheck hc]
  refine ⟨fun hnone => ?_, fun t ht => ?_⟩
  · rw [txCheck_eq_of_none (s := { fresh s with clock := now }) now hnone,
      txProgress_eq_of_none (s := { fresh s with clock := now }) now hnone]
    rfl
  · rw [txCheck_eq (s := { fresh s with clock := now }) ht, txProgress_eq (s := { fresh s with clock := now }) ht]
    rfl

/-! `PREPARE_FRAME` answers its frame or its refusal (R183). -/

theorem exec_prepareFrame_ok {basis f : Raw} {m : Bool} {inp : Inp} {s : State}
    (h : prepareFrame s.cfg.toCfg s.cq basis m inp = .ok f) :
    exec (.prepareFrame basis m inp) s = .next { s with
      cq := { s.cq with raw := none }, configOpen := false, events := [], result := .prepared ⟨f, .controller⟩ } := by
  simp only [exec, execPrepareFrame, h]
  rfl

theorem exec_prepareFrame_refused {basis : Raw} {m : Bool} {inp : Inp} {s : State} {r : Refusal}
    (h : prepareFrame s.cfg.toCfg s.cq basis m inp = .error r) : exec (.prepareFrame basis m inp) s = .refused r := by
  simp only [exec, execPrepareFrame, h]

/-- Settles O43: the parrot path has no way to refuse, and `parrot_spec` says its bytes. -/
theorem prepareParrotFrame : Obligations.PrepareParrotFrame := by
  intro basis inp s
  have hf := prepareFrame_parrot s.cfg.toCfg s.cq basis inp
  obtain ⟨hheader, hcommand, hrest⟩ := parrot_spec (commandByte s.cfg.toCfg s.cq) basis
  exact ⟨_, exec_prepareFrame_ok hf, hheader, hcommand, prepareFrame_verifies hf, hrest⟩

/-! The composer's three bytes depend on the working copy only through its demand range (R200 to R205). -/

theorem reportTemperature_writes {signed : Bool} {reported desired : Int} (hr : fitsDegrees signed reported)
    (hd : fitsDegrees signed desired) (x : Raw) : reportTemperature signed reported desired x =
      .ok (writeDemand modeThermostat (BitVec.ofInt 8 reported) (BitVec.ofInt 8 desired) x) := by
  simp only [reportTemperature, (tbyte_ok hr).1, (tbyte_ok hd).1]
  rfl

theorem composeLinearHz_writes {inp : Inp} {x : Raw} (hw : 0 < inp.window) (hrange : x[14].toNat ≤ x[15].toNat) :
    composeLinearHz inp x = .ok (writeDemand modeFixed 0x00#8
      (BitVec.ofInt 8 (rnd (linearDemand inp (x[14].toNat : ℚ) (x[15].toNat : ℚ)))) x) :=
  if_neg (not_or.mpr ⟨not_le.mpr (half_pos hw), not_lt.mpr hrange⟩)

/-- On every working copy with the demand range of `x`, the composer writes the same three bytes (R200, R203). -/
theorem compose_writes {signed : Bool} {inp : Inp} {x : Raw} (h : demandInRange signed x inp) :
    ∃ mode actual demand : Byte, ∀ z : Raw, z[14] = x[14] → z[15] = x[15] →
      compose signed inp z = .ok (writeDemand mode actual demand z) := by
  unfold compose
  cases hthermo : inp.thermoEnable with
  | false => exact ⟨modeFixed, 0x00#8, inp.fixedDemand, fun _ _ _ => rfl⟩
  | true =>
    have hmethod := h hthermo
    cases hm : inp.method with
    | standard =>
      simp only [hm] at hmethod
      obtain ⟨hsensed, hdesired⟩ := hmethod
      exact ⟨_, _, _, fun z _ _ => reportTemperature_writes hsensed hdesired z⟩
    | windowedHysteresis =>
      simp only [hm] at hmethod
      obtain ⟨hreported, hdesired⟩ := hmethod
      exact ⟨_, _, _, fun z _ _ => reportTemperature_writes hreported hdesired z⟩
    | linearHz =>
      simp only [hm] at hmethod
      obtain ⟨hw, hrange⟩ := hmethod
      refine ⟨modeFixed, 0x00#8, BitVec.ofInt 8 (rnd (linearDemand inp (x[14].toNat : ℚ) (x[15].toNat : ℚ))),
        fun z hlo hhi => ?_⟩
      rw [← hlo, ← hhi] at hrange ⊢
      exact composeLinearHz_writes hw hrange

/-! Inputs out of range are refused by name (R117, R206, R261). -/

theorem setTuning_refused {inp : Inp} (h : ¬ tuningInRange inp) (x : Raw) : setTuning inp x = .error .fieldRange := by
  unfold setTuning setScaled8
  by_cases hmin : fits8 (rnd (inp.pumpMin * 10))
  swap
  · simp only [setCount8_refused hmin, bind, Except.bind]
  by_cases hmax : fits8 (rnd (inp.pumpMax * 10))
  swap
  · simp only [setCount8_ok hmin, setCount8_refused hmax, bind, Except.bind]
  by_cases hfanMin : fits16 inp.fanMin
  swap
  · simp only [setCount8_ok hmin, setCount8_ok hmax, setCount16_refused hfanMin, bind, Except.bind]
  by_cases hfanMax : fits16 inp.fanMax
  swap
  · simp only [setCount8_ok hmin, setCount8_ok hmax, setCount16_ok hfanMin, setCount16_refused hfanMax, bind, Except.bind]
  have hvolts : ¬ fits8 (rnd (inp.sysVoltage * 10)) := fun hvolts => h ⟨hmin, hmax, hvolts, hfanMin, hfanMax⟩
  simp only [setCount8_ok hmin, setCount8_ok hmax, setCount16_ok hfanMin, setCount16_ok hfanMax,
    setCount8_refused hvolts, bind, Except.bind]

theorem reportTemperature_refused {signed : Bool} {reported desired : Int}
    (h : ¬ (fitsDegrees signed reported ∧ fitsDegrees signed desired)) (x : Raw) :
    reportTemperature signed reported desired x = .error .fieldRange := by
  unfold reportTemperature
  by_cases hr : fitsDegrees signed reported
  · rw [(tbyte_ok hr).1, tbyte_refused fun hd => h ⟨hr, hd⟩]
    rfl
  · rw [tbyte_refused hr]
    rfl

theorem composeLinearHz_refused {inp : Inp} {x : Raw} (h : ¬ (0 < inp.window ∧ x[14].toNat ≤ x[15].toNat)) :
    composeLinearHz inp x = .error .composerDomain := by
  refine if_pos (or_iff_not_imp_left.mpr fun hw => not_le.mp fun hrange => h ⟨?_, hrange⟩)
  exact not_le.mp fun hle => hw (div_nonpos_of_nonpos_of_nonneg hle zero_le_two)

theorem compose_refused {signed : Bool} {inp : Inp} {x : Raw} (h : ¬ demandInRange signed x inp) :
    ∃ r : Refusal, (r = .fieldRange ∨ r = .composerDomain) ∧ compose signed inp x = .error r := by
  unfold demandInRange at h
  obtain ⟨hthermo, hmethod⟩ := Classical.not_imp.mp h
  unfold compose
  rw [if_pos hthermo]
  cases hm : inp.method with
  | standard =>
    simp only [hm] at hmethod
    exact ⟨_, .inl rfl, reportTemperature_refused hmethod x⟩
  | windowedHysteresis =>
    simp only [hm] at hmethod
    exact ⟨_, .inl rfl, reportTemperature_refused hmethod x⟩
  | linearHz =>
    simp only [hm] at hmethod
    exact ⟨_, .inr rfl, composeLinearHz_refused hmethod⟩

/-! The bytes of a master frame (R183, R184). -/

/-- The working copy of a master frame before it composes: command, active header, tuning (R183). -/
def masterCopy (cmd : Byte) (inp : Inp) (basis : Raw) : Raw :=
  tunedBytes inp (setByte 0 headerActive (setByte 2 cmd basis))

/-- With tuning in range, a master frame is its working copy composed and checksummed, or the composer's refusal (R183, R261). -/
theorem prepareFrame_master_eq {cfg : Cfg} {inp : Inp} (q : CommandQueue) (basis : Raw) (h : tuningInRange inp) :
    prepareFrame cfg q basis true inp =
      (compose cfg.tempByteSigned inp (masterCopy (commandByte cfg q) inp basis)).map setCrc := by
  simp only [prepareFrame, if_true, setTuning_ok h, bind, Except.bind, masterCopy]
  generalize compose cfg.tempByteSigned inp _ = composed
  cases composed <;> rfl

/-- The seven tuning fields of a frame read as the inputs, each rounded to its count (R183). -/
def HoldsTuning (inp : Inp) (f : Raw) : Prop :=
  (f[5].toNat : Int) = rnd (inp.pumpMin * 10) ∧ (f[6].toNat : Int) = rnd (inp.pumpMax * 10) ∧
    (wide f 7 8 : Int) = inp.fanMin ∧ (wide f 9 10 : Int) = inp.fanMax ∧
    (f[11].toNat : Int) = rnd (inp.sysVoltage * 10) ∧ f[12] = inp.sensorSelect ∧ f[16] = inp.glowDrive

/-- The tuning fields read back, when each fits (R62, R183). -/
theorem tunedBytes_holdsTuning {inp : Inp} (h : tuningInRange inp) (x : Raw) :
    HoldsTuning inp (tunedBytes inp x) := by
  obtain ⟨hmin, hmax, hvolts, hfanMin, hfanMax⟩ := h
  refine ⟨?_, ?_, ?_, ?_, ?_, ?_, ?_⟩
  · simpa [tunedBytes, setByte, memWrite2] using ofInt8_toNat hmin
  · simpa [tunedBytes, setByte, memWrite2] using ofInt8_toNat hmax
  · rw [← wide_memWrite2 (x := x) (hi := 7) (lo := 8) (by decide) hfanMin]
    simp [wide, tunedBytes, setByte, memWrite2]
  · rw [← wide_memWrite2 (x := x) (hi := 9) (lo := 10) (by decide) hfanMax]
    simp [wide, tunedBytes, setByte, memWrite2]
  · simpa [tunedBytes, setByte, memWrite2] using ofInt8_toNat hvolts
  · simp [tunedBytes, setByte]
  · simp [tunedBytes, setByte]

/-- What the composer and the checksum write is no tuning field (R113, R183, R200). -/
theorem HoldsTuning.of_sameExcept {inp : Inp} {x y : Raw} (h : HoldsTuning inp x)
    (hsame : sameExcept [3, 4, 13, 22, 23] x y) : HoldsTuning inp y := by
  have hwide {hi lo : Fin 24} (hhi : hi.val ∉ [3, 4, 13, 22, 23]) (hlo : lo.val ∉ [3, 4, 13, 22, 23]) :
      wide y hi lo = wide x hi lo := by
    simp only [wide, Fin.getElem_fin, hsame hi hi.isLt hhi, hsame lo lo.isLt hlo]
  unfold HoldsTuning
  rwa [hsame 5 (by decide) (by decide), hsame 6 (by decide) (by decide), hwide (by decide) (by decide),
    hwide (by decide) (by decide), hsame 11 (by decide) (by decide), hsame 12 (by decide) (by decide),
    hsame 16 (by decide) (by decide)]

/-- Two changes one after the other stay within the offsets of both. -/
theorem sameExcept_trans {l m n : List Nat} {x y z : Raw} (hxy : sameExcept l x y) (hyz : sameExcept m y z)
    (hl : l ⊆ n) (hm : m ⊆ n) : sameExcept n x z :=
  fun i hi hn => (hyz i hi fun h => hn (hm h)).trans (hxy i hi fun h => hn (hl h))

/-- A finished frame is its working copy but for the composer's bytes and the checksum (R113, R200). -/
theorem setCrc_writeDemand_sameExcept (mode actual demand : Byte) (x : Raw) :
    sameExcept [3, 4, 13, 22, 23] x (setCrc (writeDemand mode actual demand x)) := by
  obtain ⟨-, -, -, hdemand⟩ := writeDemand_spec mode actual demand x
  exact sameExcept_trans hdemand (memWrite2_sameExcept (l := [22, 23]) (by decide) (by decide)) (by decide) (by decide)

/-- Before it composes, a master frame is its basis but for header, command and tuning (R183). -/
theorem masterCopy_sameExcept (cmd : Byte) (inp : Inp) (basis : Raw) :
    sameExcept [0, 2, 5, 6, 7, 8, 9, 10, 11, 12, 16] basis (masterCopy cmd inp basis) := by
  intro i hi hn
  have htuning : i ∉ [5, 6, 7, 8, 9, 10, 11, 12, 16] := fun h => hn (.tail _ (.tail _ h))
  rw [masterCopy, tunedBytes_sameExcept _ _ i hi htuning, setByte_getElem hi fun h => hn (h ▸ by decide),
    setByte_getElem hi fun h => hn (h ▸ by decide)]

/-- Header and command of the working copy (R183). -/
theorem masterCopy_header_command (cmd : Byte) (inp : Inp) (basis : Raw) :
    (masterCopy cmd inp basis)[0] = headerActive ∧ (masterCopy cmd inp basis)[2] = cmd := by
  constructor
  · rw [masterCopy, tunedBytes_sameExcept _ _ 0 (by decide) (by decide)]; simp [setByte]
  · rw [masterCopy, tunedBytes_sameExcept _ _ 2 (by decide) (by decide), setByte_getElem _ (by decide)]; simp [setByte]

theorem prepareFrame_master_refused {cfg : Cfg} {basis : Raw} {inp : Inp} (q : CommandQueue)
    (h : ¬ inRange cfg.tempByteSigned basis inp) :
    ∃ r : Refusal, (r = .fieldRange ∨ r = .composerDomain) ∧ prepareFrame cfg q basis true inp = .error r := by
  by_cases htuning : tuningInRange inp
  · have hdemand : ¬ demandInRange cfg.tempByteSigned (masterCopy (commandByte cfg q) inp basis) inp := fun hcopy =>
      h ⟨htuning, demandInRange_congr (masterCopy_sameExcept _ _ _ 14 (by decide) (by decide)).symm
        (masterCopy_sameExcept _ _ _ 15 (by decide) (by decide)).symm hcopy⟩
    obtain ⟨r, hname, hr⟩ := compose_refused hdemand
    exact ⟨r, hname, by rw [prepareFrame_master_eq q basis htuning, hr]; rfl⟩
  · exact ⟨.fieldRange, .inl rfl, by simp only [prepareFrame, if_true, setTuning_refused htuning, bind, Except.bind]⟩

/-- A master frame for inputs in range: its working copy with the three bytes the composer writes on the basis, and a
checksum (R183). -/
theorem prepareFrame_master_writes {cfg : Cfg} {basis : Raw} {inp : Inp} (q : CommandQueue)
    (h : inRange cfg.tempByteSigned basis inp) : ∃ mode actual demand : Byte,
      compose cfg.tempByteSigned inp basis = .ok (writeDemand mode actual demand basis) ∧
      prepareFrame cfg q basis true inp =
        .ok (setCrc (writeDemand mode actual demand (masterCopy (commandByte cfg q) inp basis))) := by
  obtain ⟨htuning, hdemand⟩ := h
  obtain ⟨mode, actual, demand, hwrites⟩ := compose_writes hdemand
  refine ⟨mode, actual, demand, hwrites basis rfl rfl, ?_⟩
  rw [prepareFrame_master_eq q basis htuning, hwrites _ (masterCopy_sameExcept _ _ _ 14 (by decide) (by decide))
    (masterCopy_sameExcept _ _ _ 15 (by decide) (by decide))]
  rfl

/-- The composer's bytes are the same in a finished frame and in any other copy it wrote them to (R200). -/
theorem setCrc_writeDemand_demand (mode actual demand : Byte) (x y : Raw) :
    (setCrc (writeDemand mode actual demand x))[3] = (writeDemand mode actual demand y)[3] ∧
    (setCrc (writeDemand mode actual demand x))[4] = (writeDemand mode actual demand y)[4] ∧
    (setCrc (writeDemand mode actual demand x))[13] = (writeDemand mode actual demand y)[13] := by
  obtain ⟨hmode, hactual, hdemand, -⟩ := writeDemand_spec mode actual demand x
  obtain ⟨hmode', hactual', hdemand', -⟩ := writeDemand_spec mode actual demand y
  refine ⟨?_, ?_, ?_⟩
  · rw [setCrc_getElem _ (by decide), hactual, hactual']
  · rw [setCrc_getElem _ (by decide), hdemand, hdemand']
  · rw [setCrc_getElem _ (by decide), hmode, hmode']

/-- Settles O42: in range, each byte of the frame is the working copy's, the composer's or the checksum's. -/
theorem prepareMasterFrame : Obligations.PrepareMasterFrame := by
  intro basis inp s
  refine ⟨fun h => ?_, fun h => ?_⟩
  · obtain ⟨mode, actual, demand, hcompose, hf⟩ := prepareFrame_master_writes s.cq h
    obtain ⟨htuning, -⟩ := h
    have hbasis := masterCopy_sameExcept (commandByte s.cfg.toCfg s.cq) inp basis
    have hsame := setCrc_writeDemand_sameExcept mode actual demand (masterCopy (commandByte s.cfg.toCfg s.cq) inp basis)
    obtain ⟨hheader, hcommand⟩ := masterCopy_header_command (commandByte s.cfg.toCfg s.cq) inp basis
    obtain ⟨hpumpMin, hpumpMax, hfanMin, hfanMax, hvolts, hsensor, hglow⟩ :=
      (tunedBytes_holdsTuning htuning _).of_sameExcept hsame
    obtain ⟨hactual, hdemand, hmode⟩ := setCrc_writeDemand_demand mode actual demand
      (masterCopy (commandByte s.cfg.toCfg s.cq) inp basis) basis
    exact ⟨_, _, exec_prepareFrame_ok hf, (hsame 0 (by decide) (by decide)).trans hheader,
      (hsame 2 (by decide) (by decide)).trans hcommand, hpumpMin, hpumpMax, hfanMin, hfanMax, hvolts, hsensor, hglow,
      hcompose, hactual, hdemand, hmode, prepareFrame_verifies hf,
      sameExcept_trans hbasis hsame (by decide) (by decide)⟩
  · obtain ⟨r, hname, hr⟩ := prepareFrame_master_refused s.cq h
    exact ⟨r, hname, exec_prepareFrame_refused hr⟩

end Sys2Proof.Machine
end

section
/-! PROOFS. The composer's four operations on their own (43_demand_composer.md R200 to R206): the three bytes each writes,
the values they read back as, and when the operation is refused. -/

namespace Sys2Proof.Machine

/-! An operation that returns its working copy answers the three bytes it composed (R200). -/

/-- A composed working copy is answered with its three bytes, every other byte and the state kept (R200). -/
theorem answerRaw_writeDemand (mode actual demand : Byte) (x : Raw) (s : State) : ∃ y : Raw,
    answerRaw (.ok (writeDemand mode actual demand x)) s = .next { s with events := [], result := .raw y } ∧
    y[13] = mode ∧ y[3] = actual ∧ y[4] = demand ∧ sameExcept [3, 4, 13] x y :=
  ⟨writeDemand mode actual demand x, rfl, writeDemand_spec mode actual demand x⟩

theorem answerRaw_refused {c : Except Refusal Raw} {r : Refusal} (h : c = .error r) (s : State) :
    answerRaw c s = .refused r := by
  rw [h]
  rfl

/-- Settles O44: the three bytes are constants or the input, so nothing can be refused. -/
theorem composeDisabledOperation : Obligations.ComposeDisabledOperation := fun x inp s =>
  answerRaw_writeDemand modeFixed 0x00#8 inp.fixedDemand x s

/-! Standard and WindowedHysteresis report two temperatures and differ in the first one only (R202, R205). -/

/-- Two temperatures that fit are answered in bytes 3 and 4 and read back as degrees (R202, R206). -/
theorem answerRaw_reportTemperature {reported desired : Int} {s : State}
    (hr : fitsDegrees s.cfg.tempByteSigned reported) (hd : fitsDegrees s.cfg.tempByteSigned desired) (x : Raw) :
    ∃ y : Raw, answerRaw (reportTemperature s.cfg.tempByteSigned reported desired x) s =
        .next { s with events := [], result := .raw y } ∧ y[13] = 0x32#8 ∧
      degreesOf s.cfg.tempByteSigned y[3] = reported ∧ degreesOf s.cfg.tempByteSigned y[4] = desired ∧
      sameExcept [3, 4, 13] x y := by
  obtain ⟨y, hy, hmode, hactual, hdemand, hsame⟩ :=
    answerRaw_writeDemand modeThermostat (BitVec.ofInt 8 reported) (BitVec.ofInt 8 desired) x s
  obtain ⟨-, hreported⟩ := tbyte_ok hr
  obtain ⟨-, hdesired⟩ := tbyte_ok hd
  rw [reportTemperature_writes hr hd]
  exact ⟨y, hy, hmode, hactual ▸ hreported, hdemand ▸ hdesired, hsame⟩

theorem exec_composeStandard (x : Raw) (inp : Inp) (s : State) : exec (.composeStandard x inp) s =
    answerRaw (reportTemperature s.cfg.tempByteSigned (rnd inp.sensed) (rnd inp.desired) x) s := rfl

/-- Settles O45: the reported temperature is the rounded sensed one. -/
theorem composeStandardOperation : Obligations.ComposeStandardOperation := by
  intro x inp s
  rw [exec_composeStandard]
  exact ⟨fun hr hd => answerRaw_reportTemperature hr hd x,
    fun h => answerRaw_refused (reportTemperature_refused h x) s⟩

/-! The temperature WindowedHysteresis reports, branch by branch (R205). -/

theorem absQ_eq_abs (q : ℚ) : absQ q = |q| := by
  unfold absQ
  split
  · exact (abs_of_neg ‹_›).symm
  · exact (abs_of_nonneg (not_lt.mp ‹_›)).symm

theorem sgn_of_pos {q : ℚ} (h : 0 < q) : sgn q = 1 := by
  rw [sgn, if_neg (not_lt.mpr h.le), if_pos h]

theorem sgn_of_neg {q : ℚ} (h : q < 0) : sgn q = -1 := if_pos h

theorem windowedReport_hold {inp : Inp} (h : |inp.sensed - inp.desired| < inp.window / 2) :
    windowedReport inp = rnd inp.desired := by
  rw [← absQ_eq_abs] at h
  exact if_pos h

theorem windowedReport_nudge {inp : Inp} (hout : inp.window / 2 ≤ |inp.sensed - inp.desired|)
    (hnear : |inp.sensed - inp.desired| ≤ 1) :
    windowedReport inp = rnd inp.desired + sgn (inp.sensed - inp.desired) := by
  rw [← absQ_eq_abs] at hout hnear
  exact (if_neg (not_lt.mpr hout)).trans (if_pos hnear)

theorem windowedReport_far {inp : Inp} (hout : inp.window / 2 ≤ |inp.sensed - inp.desired|)
    (hfar : 1 < |inp.sensed - inp.desired|) : windowedReport inp = rnd inp.sensed := by
  rw [← absQ_eq_abs] at hout hfar
  exact (if_neg (not_lt.mpr hout)).trans (if_neg (not_le.mpr hfar))

/-- What R205 says of a reported temperature: the setpoint inside the half-window, one degree from it on the sensed side up
to one degree off, the rounded sensed temperature beyond. -/
structure ReportsWindowed (inp : Inp) (reported : Int) : Prop where
  hold : |inp.sensed - inp.desired| < inp.window / 2 → reported = rnd inp.desired
  nudge : inp.window / 2 ≤ |inp.sensed - inp.desired| → |inp.sensed - inp.desired| ≤ 1 →
    (inp.desired < inp.sensed → reported = rnd inp.desired + 1) ∧
    (inp.sensed < inp.desired → reported = rnd inp.desired - 1) ∧
    (inp.sensed = inp.desired → reported = rnd inp.desired)
  far : inp.window / 2 ≤ |inp.sensed - inp.desired| → 1 < |inp.sensed - inp.desired| → reported = rnd inp.sensed

/-- Only the model's own reported temperature does what R205 says. -/
theorem ReportsWindowed.eq_windowedReport {inp : Inp} {reported : Int} (h : ReportsWindowed inp reported) :
    reported = windowedReport inp := by
  obtain hin | hout := lt_or_ge |inp.sensed - inp.desired| (inp.window / 2)
  · rw [h.hold hin, windowedReport_hold hin]
  obtain hnear | hfar := le_or_gt |inp.sensed - inp.desired| 1
  · obtain ⟨habove, hbelow, hat⟩ := h.nudge hout hnear
    rw [windowedReport_nudge hout hnear]
    obtain hlt | heq | hgt := lt_trichotomy inp.sensed inp.desired
    · rw [hbelow hlt, sgn_of_neg (sub_neg.mpr hlt), Int.sub_eq_add_neg]
    · rw [hat heq, sub_eq_zero.mpr heq]
      exact (Int.add_zero _).symm
    · rw [habove hgt, sgn_of_pos (sub_pos.mpr hgt)]
  · rw [h.far hout hfar, windowedReport_far hout hfar]

theorem exec_composeWindowed (x : Raw) (inp : Inp) (s : State) : exec (.composeWindowed x inp) s =
    answerRaw (reportTemperature s.cfg.tempByteSigned (windowedReport inp) (rnd inp.desired) x) s := rfl

/-- Settles O46: the three branches fix the reported temperature, which is then reported as any other is. -/
theorem composeWindowedOperation : Obligations.ComposeWindowedOperation := by
  intro x inp s reported hhold hnudge hfar
  have hreported : ReportsWindowed inp reported := ⟨hhold, hnudge, hfar⟩
  rw [exec_composeWindowed, ← hreported.eq_windowedReport]
  exact ⟨fun hr hd => answerRaw_reportTemperature hr hd x,
    fun h => answerRaw_refused (reportTemperature_refused h x) s⟩

/-! The LinearHz demand stays a count in its range when it is rounded (R203, R204). -/

theorem rnd_mono {p q : ℚ} (h : p ≤ q) : rnd p ≤ rnd q := Int.floor_mono (by gcongr)

/-- Rounding leaves a whole number (R12). -/
theorem rnd_natCast (n : Nat) : rnd n = n := by
  rw [rnd, Int.floor_natCast_add, Int.floor_eq_zero_iff.mpr ⟨by norm_num, by norm_num⟩, add_zero]

/-- A value clamped to a range of counts rounds to a count of the range (R204 (b)). -/
theorem rnd_clamp_mem {lo hi : Nat} (h : lo ≤ hi) (q : ℚ) :
    (lo : Int) ≤ rnd (clamp q lo hi) ∧ rnd (clamp q lo hi) ≤ hi := by
  have hlo : (lo : ℚ) ≤ clamp q lo hi := le_max_left ..
  have hhi : clamp q lo hi ≤ hi := max_le (Nat.cast_le.mpr h) (min_le_left ..)
  exact ⟨rnd_natCast lo ▸ rnd_mono hlo, rnd_natCast hi ▸ rnd_mono hhi⟩

/-- A count that fits is answered in byte 4 with the flag off, and reads back (R204). -/
theorem answerRaw_fixedDemand {v : Int} (h : fits8 v) (x : Raw) (s : State) : ∃ y : Raw,
    answerRaw (.ok (writeDemand modeFixed 0x00#8 (BitVec.ofInt 8 v) x)) s =
        .next { s with events := [], result := .raw y } ∧
      y[13] = 0xCD#8 ∧ y[3] = 0x00#8 ∧ (y[4].toNat : Int) = v ∧ sameExcept [3, 4, 13] x y := by
  obtain ⟨y, hy, hmode, hactual, hdemand, hsame⟩ :=
    answerRaw_writeDemand modeFixed 0x00#8 (BitVec.ofInt 8 v) x s
  exact ⟨y, hy, hmode, hactual, hdemand ▸ ofInt8_toNat h, hsame⟩

theorem exec_composeLinearHz (x : Raw) (inp : Inp) (s : State) :
    exec (.composeLinearHz x inp) s = answerRaw (composeLinearHz inp x) s := rfl

/-- Settles O47: clamped between two bytes, the rounded demand fits its byte and reads back in the range. -/
theorem composeLinearHzOperation : Obligations.ComposeLinearHzOperation := by
  rintro x inp s dmin dmax midpoint composed rfl rfl rfl rfl
  rw [exec_composeLinearHz]
  refine ⟨fun hhalf hle => ?_, fun hout => ?_⟩
  · have hwindow : 0 < inp.window := (div_pos_iff_of_pos_right two_pos).mp hhalf
    have hrange : x[14].toNat ≤ x[15].toNat := Nat.cast_le.mp hle
    obtain ⟨hlo, hhi⟩ : (x[14].toNat : Int) ≤ rnd (linearDemand inp (x[14].toNat : ℚ) (x[15].toNat : ℚ)) ∧
      rnd (linearDemand inp (x[14].toNat : ℚ) (x[15].toNat : ℚ)) ≤ x[15].toNat := rnd_clamp_mem hrange _
    have hmax : (x[15].toNat : Int) ≤ 255 := Int.ofNat_le.mpr (Nat.le_of_lt_succ x[15].isLt)
    obtain ⟨y, hy, hmode, hactual, hcount, hsame⟩ :=
      answerRaw_fixedDemand ⟨(Int.natCast_nonneg _).trans hlo, hhi.trans hmax⟩ x s
    rw [composeLinearHz_writes hwindow hrange]
    exact ⟨y, hy, hmode, hactual, hcount, Int.ofNat_le.mp (hcount ▸ hlo), Int.ofNat_le.mp (hcount ▸ hhi), hsame⟩
  · refine answerRaw_refused (composeLinearHz_refused fun ⟨hwindow, hrange⟩ => ?_) s
    obtain hhalf | hlt := hout
    · exact not_le.mpr (half_pos hwindow) hhalf
    · exact not_le.mpr (Nat.cast_lt.mp hlt) hrange

end Sys2Proof.Machine
end

section
/-! PROOFS. Fault inference and the writes of the host (44_smart_fault.md R215 to R218; 45_host_interface.md R235 to R237):
the branches of `SFI_UPDATE` one by one, the two sides of `CHECK_VOLTS`, and the constant writes. -/

namespace Sys2Proof.Machine

/-! Step 1 of `SFI_UPDATE`: the inferred code and the inhibit (R215). -/

/-- A start from idle clears both, inhibited or not (R215). -/
theorem inferCode_of_start {next : Byte} {e : SmartError} (hidle : e.prev = 0#8) (hstart : next ≠ 0#8) :
    inferCode next e = ⟨e.prev, .none, false⟩ := if_pos ⟨hidle, hstart⟩

/-- Out of preheat, unless inhibited, the next run state decides the code (R215). -/
theorem inferCode_of_preheat {next : Byte} {e : SmartError} (hinh : e.inhibited = false) (hpre : e.prev = 2#8) :
    inferCode next e = ⟨e.prev, if next = 4#8 then .none else if next = 3#8 then .ignitionRetry
      else if 5 < next.toNat then .ignitionFail else e.code, e.inhibited⟩ := by
  have hpast : next > 5#8 ↔ 5 < next.toNat := BitVec.lt_def
  have hnotIdle : ¬ (e.prev = 0#8 ∧ next ≠ 0#8) := fun ⟨hidle, _⟩ => absurd (hpre.symm.trans hidle) (by decide)
  rw [inferCode, if_neg hnotIdle, if_pos ⟨ne_true_of_eq_false hinh, hpre⟩]
  simp only [hpast]
  repeat' split
  all_goals rfl

/-- Without a start from idle, an inhibit and any run state but preheat stop the inference (R215). -/
theorem inferCode_of_quiet {next : Byte} {e : SmartError} (hnoStart : ¬ (e.prev = 0#8 ∧ next ≠ 0#8))
    (hquiet : e.inhibited = true ∨ e.prev ≠ 2#8) : inferCode next e = e := by
  have hnotPreheat : ¬ (¬ e.inhibited = true ∧ e.prev = 2#8) := fun ⟨hinh, hpre⟩ =>
    hquiet.elim hinh fun hne => hne hpre
  rw [inferCode, if_neg hnoStart, if_neg hnotPreheat]

/-- Only a start from idle lifts the inhibit (R215). -/
theorem inferCode_inhibited {next : Byte} {e : SmartError} (hnoStart : ¬ (e.prev = 0#8 ∧ next ≠ 0#8)) :
    (inferCode next e).inhibited = e.inhibited := by
  by_cases hpreheat : e.inhibited = false ∧ e.prev = 2#8
  · obtain ⟨hinh, hpre⟩ := hpreheat
    rw [inferCode_of_preheat hinh hpre]
  · have hquiet : e.inhibited = true ∨ e.prev ≠ 2#8 := by
      rwa [not_and_or, Bool.not_eq_false] at hpreheat
    rw [inferCode_of_quiet hnoStart hquiet]

/-! Steps 2 and 3 of `SFI_UPDATE`: the requests that took effect (R215). -/

theorem cancelTaken_on (next : Byte) (q : CommandQueue) :
    (cancelTaken next q).on = (q.on && decide (next.toNat < 2)) := by
  have htaken : next ≥ 2#8 ↔ ¬ next.toNat < 2 := BitVec.le_def.trans Nat.not_lt.symm
  simp only [cancelTaken, htaken]
  by_cases h : next.toNat < 2 <;> simp [h]

theorem cancelTaken_off (next : Byte) (q : CommandQueue) :
    (cancelTaken next q).off = (q.off && decide (0 < next.toNat ∧ next.toNat < 7)) := by
  have htaken : (next ≥ 7#8 ∨ next = 0#8) ↔ ¬ (0 < next.toNat ∧ next.toNat < 7) := by
    have hstop : next ≥ 7#8 ↔ 7 ≤ next.toNat := BitVec.le_def
    have hidle : next = 0#8 ↔ next.toNat = 0 := BitVec.toNat_inj.symm
    rw [hstop, hidle]
    omega
  simp only [cancelTaken, htaken]
  by_cases h : 0 < next.toNat ∧ next.toNat < 7 <;> simp [h]

/-- Settles O48: the four steps by the lemmas on `inferCode` and `cancelTaken`, on the state as the operation finds it. -/
theorem sfiUpdateOperation : Obligations.SfiUpdateOperation := by
  intro next s
  refine ⟨sfiUpdate next (fresh s), rfl, rfl, rfl, rfl, cancelTaken_on next s.cq, cancelTaken_off next s.cq, ?_, ?_⟩
  · intro hidle hstart
    simp only [sfiUpdate_sfi, fresh_sfi, inferCode_of_start hidle hstart, and_self]
  · intro hnoStart
    simp only [sfiUpdate_sfi, fresh_sfi]
    refine ⟨inferCode_inhibited hnoStart, fun hinh hpre => ?_, fun hquiet => ?_⟩
    · rw [inferCode_of_preheat hinh hpre]
    · rw [inferCode_of_quiet hnoStart hquiet]

/-! `CHECK_VOLTS` on the two sides of its threshold (R218). -/

/-- The compensated voltage in terms of the frame's bytes (R141, R146, R218). -/
theorem compensatedVolts_eq (kCable : ℚ) (x : Raw) : compensatedVolts kCable x =
    (wide x 4 5 : ℚ) / 10 + kCable * ((wide x 14 15 : ℚ) / 100) := by
  simp only [compensatedVolts, getScaled16_eq_wide]

theorem exec_checkVolts {f : Frame} (hf : f.valid .heater = true) (inp : Inp) (s : State) :
    exec (.checkVolts f inp) s = .next (checkVolts f.bytes inp (fresh s)) := if_pos hf

/-- Settles O49: a validated frame is compared once, and the comparison is strict. -/
theorem checkVoltsOperation : Obligations.CheckVoltsOperation := by
  rintro f inp s _ hf rfl
  rw [exec_checkVolts hf, ← compensatedVolts_eq]
  refine ⟨fun hlow => ?_, fun henough => ?_⟩
  · exact congrArg _ (if_pos hlow)
  · exact congrArg _ (if_neg (not_lt.mpr henough))

/-! The writes of the host are constant, so each is its meaning (R216, R217, R235 to R237). -/

/-- Settles O50: each write by the definition of its flags. -/
theorem hostWrites : Obligations.HostWrites :=
  fun _ => ⟨rfl, rfl, rfl, rfl, rfl, rfl, fun _ => rfl⟩

end Sys2Proof.Machine
end

section
/-! PROOFS. What the host reads and what it cannot reach (45_host_interface.md R238 to R243, R247): every operation of the
host but `RESET` is an answer, a new `CommandQueue`, or a new code and inhibit. -/

namespace Sys2Proof.Machine

/-! The operations of the host through the one update each of them makes (R216, R217, R235 to R243). -/

theorem exec_reqOn (v : Bool) (s : State) : exec (.reqOn v) s = .next { fresh s with cq := requestOn v s.cq } := rfl
theorem exec_reqOff (v : Bool) (s : State) : exec (.reqOff v) s = .next { fresh s with cq := requestOff v s.cq } := rfl
theorem exec_reqRaw (b : Byte) (s : State) : exec (.reqRaw b) s = .next { fresh s with cq := requestRaw b s.cq } := rfl
theorem exec_sfiInhibit (s : State) : exec .sfiInhibit s = .next (sfiInhibit (fresh s)) := rfl
theorem exec_sfiReset (s : State) : exec .sfiReset s = .next (sfiReset (fresh s)) := rfl
theorem exec_rdOemFrame (s : State) : exec .rdOemFrame s = .next (answer (.snapshot s.pubOEM) s) := rfl
theorem exec_rdHtrFrame (s : State) : exec .rdHtrFrame s = .next (answer (.snapshot s.pubHtr) s) := rfl
theorem exec_rdFault (s : State) :
    exec .rdFault s = .next (answer (.faults s.sfi.code (rawErrorCodes s)) s) := rfl
theorem exec_rdStatus (s : State) : exec .rdStatus s = .next (answer (.status (statusOf s)) s) := rfl

/-- The two raw error bytes stand or are missing with the published heater frame (R242). -/
theorem rawErrorCodes_eq_map (s : State) :
    rawErrorCodes s = s.pubHtr.map fun p => (p.frame.bytes[3], p.frame.bytes[17]) := by
  unfold rawErrorCodes
  cases s.pubHtr with
  | none => rfl
  | some p => rfl

/-- Settles O51: each read answers its value, and the raw error bytes follow `pubHtr`. -/
theorem hostReads : Obligations.HostReads := by
  intro s
  rw [exec_rdFault, rawErrorCodes_eq_map]
  exact ⟨exec_rdOemFrame s, exec_rdHtrFrame s, rfl, exec_rdStatus s⟩

/-- Nothing of the engine's differs: every element but the `CommandQueue`, the inferred code and the inhibit, and the
model's own outputs, is as it was, the run state the inference last saw included (R247). -/
def KeepsEngine (s t : State) : Prop :=
  t = { s with cq := t.cq, sfi := t.sfi, configOpen := t.configOpen, events := [], result := t.result } ∧
    t.sfi.prev = s.sfi.prev

theorem answer_keepsEngine (r : Result) (s : State) : KeepsEngine s (answer r s) := ⟨rfl, rfl⟩

theorem cq_keepsEngine (q : CommandQueue) (s : State) : KeepsEngine s { fresh s with cq := q } := ⟨rfl, rfl⟩

theorem sfiInhibit_keepsEngine (s : State) : KeepsEngine s (sfiInhibit (fresh s)) := ⟨rfl, rfl⟩

theorem sfiReset_keepsEngine (s : State) : KeepsEngine s (sfiReset (fresh s)) := ⟨rfl, rfl⟩

/-- The nine operations of the host complete and keep the engine's elements; `SFI_RESET` alone touches the code, and
clears it (R217, R247). -/
theorem byHost_keepsEngine {i : Instr} (hi : byHost i) (s : State) : ∃ t : State, exec i s = .next t ∧ KeepsEngine s t ∧
    (t.sfi.code = s.sfi.code ∨ (i = .sfiReset ∧ t.sfi.code = .none)) := by
  obtain ⟨v, rfl⟩ | ⟨v, rfl⟩ | ⟨b, rfl⟩ | rfl | rfl | rfl | rfl | rfl | rfl := hi
  · exact ⟨_, exec_reqOn v s, cq_keepsEngine _ s, .inl rfl⟩
  · exact ⟨_, exec_reqOff v s, cq_keepsEngine _ s, .inl rfl⟩
  · exact ⟨_, exec_reqRaw b s, cq_keepsEngine _ s, .inl rfl⟩
  · exact ⟨_, exec_sfiInhibit s, sfiInhibit_keepsEngine s, .inl rfl⟩
  · exact ⟨_, exec_sfiReset s, sfiReset_keepsEngine s, .inr ⟨rfl, rfl⟩⟩
  · exact ⟨_, exec_rdOemFrame s, answer_keepsEngine _ s, .inl rfl⟩
  · exact ⟨_, exec_rdHtrFrame s, answer_keepsEngine _ s, .inl rfl⟩
  · exact ⟨_, exec_rdFault s, answer_keepsEngine _ s, .inl rfl⟩
  · exact ⟨_, exec_rdStatus s, answer_keepsEngine _ s, .inl rfl⟩

/-- Settles O53: each of the nine operations by the one update it makes. -/
theorem hostCannotTouchTheEngine : Obligations.HostCannotTouchTheEngine := by
  intro i s hi
  obtain ⟨t, ht, ⟨hframe, hprev⟩, hcode⟩ := byHost_keepsEngine hi s
  exact ⟨t, ht, hframe, hprev, hcode⟩

end Sys2Proof.Machine
end

section
/-! PROOFS. What no rule reads (60_exceptions.md R267, R270): the timeout log and the mastership. One argument serves both.
A named update that does not write the forgotten element commutes with forgetting it. The three updates that do write one
(the timeout log, the promotion of `Idle`, the OEM frame of `ValidateMasterFrame`) write a value that is forgotten again. -/

namespace Sys2Proof.Machine

/-- The two elements of the state that R267 and R270 speak of. -/
inductive Unread where
  /-- `tLog`, with the log lines (R270). -/
  | log
  /-- `master` (R267). -/
  | master

/-- The state without an unread element. -/
def forget (v : Unread) (s : State) : State :=
  match v with
  | .log => forgetLog s
  | .master => forgetMaster s

/-- An operation ignores an element: whether it is forgotten before or only after, the outcome is the same. -/
def Ignores (v : Unread) (k : State → Host.Outcome State Fault Refusal) : Prop :=
  ∀ s, mapNext (forget v) (k (forget v s)) = mapNext (forget v) (k s)

section
variable (v : Unread) (s : State)

/-! What is left of a state: everything but the one element. -/

@[simp] theorem forget_forget : forget v (forget v s) = forget v s := by
  cases v with
  | log => simp [forget, forgetLog]
  | master => rfl

@[simp] theorem forget_cfg : (forget v s).cfg = s.cfg := by cases v <;> rfl
@[simp] theorem forget_st : (forget v s).st = s.st := by cases v <;> rfl
@[simp] theorem forget_tLast : (forget v s).tLast = s.tLast := by cases v <;> rfl
@[simp] theorem forget_tReport : (forget v s).tReport = s.tReport := by cases v <;> rfl
@[simp] theorem forget_idx : (forget v s).idx = s.idx := by cases v <;> rfl
@[simp] theorem forget_bufOEM : (forget v s).bufOEM = s.bufOEM := by cases v <;> rfl
@[simp] theorem forget_bufHM : (forget v s).bufHM = s.bufHM := by cases v <;> rfl
@[simp] theorem forget_bufHS : (forget v s).bufHS = s.bufHS := by cases v <;> rfl
@[simp] theorem forget_txBuf : (forget v s).txBuf = s.txBuf := by cases v <;> rfl
@[simp] theorem forget_txStart : (forget v s).txStart = s.txStart := by cases v <;> rfl
@[simp] theorem forget_pending : (forget v s).pending = s.pending := by cases v <;> rfl
@[simp] theorem forget_cq : (forget v s).cq = s.cq := by cases v <;> rfl
@[simp] theorem forget_pubOEM : (forget v s).pubOEM = s.pubOEM := by cases v <;> rfl
@[simp] theorem forget_configOpen : (forget v s).configOpen = s.configOpen := by cases v <;> rfl
@[simp] theorem forget_clock : (forget v s).clock = s.clock := by cases v <;> rfl

/-! The updates that commute with forgetting (R41, R151 to R156, R181, R182, R215 to R218, R265). -/

theorem fresh_forget : fresh (forget v s) = forget v (fresh s) := by cases v <;> rfl

theorem answer_forget (r : Result) : answer r (forget v s) = forget v (answer r s) := by cases v <;> rfl

theorem afterPoll_forget (now : Nat) : afterPoll now (forget v s) = forget v (afterPoll now s) := by cases v <;> rfl

theorem polled_forget (now : Nat) : polled now (forget v s) = polled now s := by cases v <;> rfl

theorem rxStore_forget (w : RxBuf) (i : Nat) (b : Byte) : rxStore w i b (forget v s) = forget v (rxStore w i b s) := by
  cases v <;> cases w <;> rfl

/-- An event that is not a log line stays (R270). -/
theorem emit_forget {e : Event} (he : e ≠ .logTimeout) : emit e (forget v s) = forget v (emit e s) := by
  cases v with
  | log => simp [forget, forgetLog, emit, he]
  | master => rfl

theorem recycle_forget : recycle (forget v s) = forget v (recycle s) := by
  cases v with
  | log => simp [recycle, emit, forget, forgetLog]
  | master => rfl

theorem recover_forget (w : Bool) {e : Event} (he : e ≠ .logTimeout) :
    recover w e (forget v s) = forget v (recover w e s) := by
  cases v with
  | log => simp [recover_eq, forget, forgetLog, he]
  | master => rfl

theorem sfiUpdate_forget (next : Byte) : sfiUpdate next (forget v s) = forget v (sfiUpdate next s) := by
  cases v <;> rfl

theorem checkVolts_forget (x : Raw) (inp : Inp) : checkVolts x inp (forget v s) = forget v (checkVolts x inp s) := by
  rw [checkVolts_eq, checkVolts_eq]
  cases v <;> rfl

theorem acceptReply_forget (f : Frame) (now : Nat) (inp : Inp) :
    acceptReply f now inp (forget v s) = forget v (acceptReply f now inp s) := by
  rw [acceptReply_eq, acceptReply_eq, sfiUpdate_forget, checkVolts_forget]
  cases v <;> rfl

/-- `TX_START`, as one update (R181). -/
theorem txStart_eq (now : Nat) : txStart now s = { s with
    txStart := s.txStart.or (some now), pending := s.txStart.isNone || s.pending
    fault := if s.txStart.isSome then some .startWhileActive else s.fault } := by
  unfold txStart
  cases s.txStart <;> rfl

theorem txStart_forget (now : Nat) : txStart now (forget v s) = forget v (txStart now s) := by
  rw [txStart_eq, txStart_eq]
  cases v <;> rfl

theorem assertGate_forget (e : Nat) : assertGate e (forget v s) = forget v (assertGate e s) := by
  unfold assertGate
  rw [forget_cfg]
  split
  · cases v <;> rfl
  · rfl

theorem writePending_forget (e : Nat) : writePending e (forget v s) = forget v (writePending e s) := by
  unfold writePending
  rw [forget_cfg, forget_pending, forget_txBuf]
  split
  · rw [← emit_forget v _ (e := .txWrite s.txBuf) nofun]
    cases v <;> rfl
  · rfl

theorem releaseGate_forget : releaseGate (forget v s) = forget v (releaseGate s) := by cases v <;> rfl

theorem txProgress_forget (now : Nat) : txProgress now (forget v s) = txProgress now s := by cases v <;> rfl

theorem txCheck_forget (now : Nat) : txCheck now (forget v s) = forget v (txCheck now s) := by
  unfold txCheck
  rw [forget_txStart]
  cases s.txStart with
  | none => cases v <;> rfl
  | some t =>
    simp only [assertGate_forget, writePending_forget, releaseGate_forget, forget_cfg]
    split <;> rfl

theorem transmit_refused {basis : Raw} {m : Bool} {now : Nat} {inp : Inp} {s : State} {r : Refusal}
    (h : prepareFrame s.cfg.toCfg s.cq basis m inp = .error r) : transmit basis m now inp s = .refused r := by
  simp only [transmit, h]

theorem transmit_prepared {basis f : Raw} {m : Bool} {now : Nat} {inp : Inp} {s : State}
    (h : prepareFrame s.cfg.toCfg s.cq basis m inp = .ok f) : transmit basis m now inp s =
      .next { txStart now { s with txBuf := f, cq := consumeRaw s.cq } with st := .transmitSelf } := by
  simp only [transmit, h]

/-- A transmission commutes with forgetting: the frame is made of the configuration, the queue and the inputs (R183). -/
theorem transmit_forget (basis : Raw) (m : Bool) (now : Nat) (inp : Inp) :
    transmit basis m now inp (forget v s) = mapNext (forget v) (transmit basis m now inp s) := by
  cases h : prepareFrame s.cfg.toCfg s.cq basis m inp with
  | error e =>
    rw [transmit_refused h, transmit_refused (s := forget v s) (by simpa using h)]
    rfl
  | ok f =>
    rw [transmit_prepared h, transmit_prepared (s := forget v s) (by simpa using h), txStart_eq, txStart_eq]
    cases v <;> rfl

/-! The operations that answer a value (R116, R117, R119, R200). -/

theorem onFrame_forget (role : Role) (f : Frame) (k : Raw → Result) :
    onFrame role f k (forget v s) = mapNext (forget v) (onFrame role f k s) := by
  unfold onFrame
  rw [answer_forget]
  split <;> rfl

theorem onCopy_forget (r : Except Refusal Raw) : onCopy r (forget v s) = mapNext (forget v) (onCopy r s) := by
  cases r with
  | ok x => exact congrArg Host.Outcome.next (answer_forget v s (.raw x))
  | error e => rfl

theorem answerRaw_forget (r : Except Refusal Raw) :
    answerRaw r (forget v s) = mapNext (forget v) (answerRaw r s) := by
  cases r with
  | ok x => exact congrArg Host.Outcome.next (answer_forget v s (.raw x))
  | error e => rfl

/-! The updates that write what is forgotten (R156, R157, R159, R270). -/

/-- All that the moderated log does is the log line and its time (R270). -/
theorem forgetLog_logTimeout (now : Nat) : forgetLog (logTimeout now s) = forgetLog s := by
  obtain ⟨-, he⟩ | ⟨-, he⟩ := logTimeout_cases now s
  · simp [he, forgetLog]
  · rw [he]

theorem logTimeout_forgetMaster (now : Nat) : logTimeout now (forgetMaster s) = forgetMaster (logTimeout now s) := by
  obtain ⟨hdue, he⟩ | ⟨⟨t, ht, hrecent⟩, he⟩ := logTimeout_cases now s
  · rw [he, logTimeout_due (s := forgetMaster s) hdue]
    rfl
  · rw [he, logTimeout_recent (s := forgetMaster s) ht hrecent]

theorem forget_logTimeout (now : Nat) : forget v (logTimeout now (forget v s)) = forget v (logTimeout now s) := by
  cases v with
  | log => exact (forgetLog_logTimeout _ now).trans ((forget_forget .log s).trans (forgetLog_logTimeout s now).symm)
  | master => exact (congrArg forgetMaster (logTimeout_forgetMaster s now)).trans (forget_forget .master _)

theorem forget_timeout (w : Bool) (now : Nat) :
    forget v (timeout w now (forget v s)) = forget v (timeout w now s) := by
  unfold timeout
  rw [forget_st, forget_idx, ← recover_forget v _ w (e := .frameCollectionTimeout _ _) nofun,
    ← recover_forget v _ w (e := .frameCollectionTimeout _ _) nofun, forget_logTimeout]

theorem forget_collect (w : RxBuf) (next : BusState) (hw : Bool) (now : Nat) (rx : Rx) :
    forget v (collect w next hw now rx (forget v s)) = forget v (collect w next hw now rx s) := by
  match rx with
  | some (b, gap) =>
    rw [collect_byte, collect_byte, forget_idx, forget_st, rxStore_forget]
    cases v with
    | log => simp [forget, forgetLog]
    | master => rfl
  | none =>
    by_cases hlate : s.cfg.tData < now - s.tLast
    · rw [collect_timeout hlate, collect_timeout (by simpa using hlate), forget_timeout]
    · rw [collect_wait (Nat.not_lt.mp hlate), collect_wait (by simpa using hlate), forget_forget]

theorem forget_validateMasterRule (now : Nat) :
    forget v (validateMasterRule now (forget v s)) = forget v (validateMasterRule now s) := by
  unfold validateMasterRule
  rw [forget_bufOEM, recover_forget v s _ (e := .frameCrcMismatch _) nofun]
  split
  · cases v with
    | log => simp [forget, forgetLog]
    | master => rfl
  · exact forget_forget v _

/-! The other rules of `STEP` (R157, R161, R162, R164, R166). -/

theorem validateReplyToMasterRule_forget (now : Nat) (inp : Inp) :
    validateReplyToMasterRule now inp (forget v s) = forget v (validateReplyToMasterRule now inp s) := by
  unfold validateReplyToMasterRule
  rw [forget_bufHM, recover_forget v s _ (e := .frameCrcMismatch _) nofun]
  split
  · rw [acceptReply_forget]
    cases v <;> rfl
  · rfl

theorem validateReplyToSelfRule_forget (now : Nat) (inp : Inp) :
    validateReplyToSelfRule now inp (forget v s) = forget v (validateReplyToSelfRule now inp s) := by
  unfold validateReplyToSelfRule
  rw [forget_bufHS, recover_forget v s _ (e := .frameCrcMismatch _) nofun]
  split
  · rw [acceptReply_forget]
    cases v <;> rfl
  · rfl

theorem transmitSelfRule_forget (now : Nat) :
    transmitSelfRule now (forget v s) = forget v (transmitSelfRule now s) := by
  unfold transmitSelfRule
  rw [txProgress_forget, txCheck_forget]
  split
  · cases v <;> rfl
  · rfl

theorem reportMasterRule_forget (now : Nat) (inp : Inp) :
    reportMasterRule now inp (forget v s) = mapNext (forget v) (reportMasterRule now inp s) := by
  unfold reportMasterRule
  rw [forget_tReport, forget_cfg, forget_pubOEM]
  split
  · cases s.pubOEM with
    | none => rfl
    | some p => exact transmit_forget v s ..
  · rfl

end

/-! From an update to the operation made of it. -/

theorem Ignores.of_forget {v : Unread} {k : State → Host.Outcome State Fault Refusal}
    (h : ∀ s, k (forget v s) = mapNext (forget v) (k s)) : Ignores v k := by
  intro s
  rw [h]
  cases k s with
  | next t => exact congrArg Host.Outcome.next (forget_forget v t)
  | fault r => rfl
  | refused r => rfl

/-- States that differ in the ignored element only give outcomes that differ in it only. -/
theorem Ignores.congr {v : Unread} {k : State → Host.Outcome State Fault Refusal} (h : Ignores v k) {s t : State}
    (hst : forget v s = forget v t) : mapNext (forget v) (k s) = mapNext (forget v) (k t) := by
  rw [← h s, ← h t, hst]

theorem Ignores.of_next {v : Unread} {f : State → State} (h : ∀ s, forget v (f (forget v s)) = forget v (f s)) :
    Ignores v fun s => .next (f s) :=
  fun s => congrArg Host.Outcome.next (h s)

/-- An operation that takes the time checks it against the clock alone (R11, R151). -/
theorem Ignores.tick {v : Unread} {now : Nat} {k : State → Host.Outcome State Fault Refusal} (h : Ignores v k) :
    Ignores v fun s => tick now s k := by
  intro s
  have hclock : ({ fresh (forget v s) with clock := now } : State) = forget v { fresh s with clock := now } := by
    cases v <;> rfl
  simp only [Machine.tick, forget_clock, hclock]
  split
  · rfl
  · exact h _

/-- A pass polls the FIFO, and ignores what its rule ignores (R151, R152). -/
theorem Ignores.pass {v : Unread} {row : BusState} {now : Nat} {rule : Rx → State → Host.Outcome State Fault Refusal}
    (h : ∀ rx, Ignores v (rule rx)) : Ignores v fun s => pass row now s rule := by
  intro s
  beta_reduce
  by_cases hst : s.st = row
  · by_cases hc : s.clock ≤ now
    · rw [pass_eq hst hc, pass_eq (by simpa using hst) (by simpa using hc), polled_forget, afterPoll_forget]
      exact h _ _
    · have hback : now < s.clock := Nat.not_le.mp hc
      rw [pass_timeRanBack hst hback, pass_timeRanBack (by simpa using hst) (by simpa using hback)]
  · rw [pass_rowNotSelected hst, pass_rowNotSelected (by simpa using hst)]

theorem transmit_ignores (v : Unread) (basis : Raw) (m : Bool) (now : Nat) (inp : Inp) :
    Ignores v (transmit basis m now inp) := .of_forget fun s => transmit_forget v s basis m now inp

/-- The promotion of `Idle` writes `master` before it transmits, and the frame does not depend on it (R157, R267). -/
theorem idleRule_ignores (v : Unread) (now : Nat) (inp : Inp) (rx : Rx) : Ignores v (idleRule now inp rx) := by
  intro s
  have hbasis : selectBasis (forget v s) = selectBasis s := by cases v <;> rfl
  unfold idleRule
  rw [forget_tLast, forget_cfg, hbasis]
  split
  · refine Ignores.congr (transmit_ignores v _ true now inp) ?_
    cases v with
    | log => simp [forget, forgetLog]
    | master => rfl
  · match rx with
    | none => exact congrArg Host.Outcome.next (forget_forget v s)
    | some (b, gap) =>
      dsimp only
      split
      · cases v with
        | log => simp [mapNext, forget, forgetLog, rxStore]
        | master => rfl
      · exact congrArg Host.Outcome.next (forget_forget v s)

/-- Every rule of `STEP` ignores both elements (R267, R270). -/
theorem rowRule_ignores (v : Unread) (row : BusState) (now : Nat) (inp : Inp) (rx : Rx) :
    Ignores v (rowRule row now inp rx) := by
  cases row with
  | idle => exact idleRule_ignores v now inp rx
  | observeMasterFrame | awaitHeaterReplyToMaster | awaitHeaterReplyToSelf =>
    exact .of_next fun s => forget_collect v s ..
  | validateMasterFrame => exact .of_next fun s => forget_validateMasterRule v s now
  | validateHeaterReplyToMaster =>
    exact .of_forget fun s => congrArg Host.Outcome.next (validateReplyToMasterRule_forget v s now inp)
  | reportMasterExchange => exact .of_forget fun s => reportMasterRule_forget v s now inp
  | transmitSelf => exact .of_forget fun s => congrArg Host.Outcome.next (transmitSelfRule_forget v s now)
  | validateHeaterReplyToSelf =>
    exact .of_forget fun s => congrArg Host.Outcome.next (validateReplyToSelfRule_forget v s now inp)
  | reportSelfExchange | housekeeping => exact .of_forget fun s => by cases v <;> rfl

theorem stepRow_ignores (v : Unread) (row : BusState) (now : Nat) (inp : Inp) :
    Ignores v (exec (stepRow row now inp)) := by
  have hpass : Ignores v fun s => pass row now s (rowRule row now inp) := .pass (rowRule_ignores v row now inp)
  intro s
  rw [exec_stepRow, exec_stepRow]
  exact hpass s

/-! The operations on their own (R91). -/

theorem onFrame_ignores (v : Unread) (role : Role) (f : Frame) (k : Raw → Result) : Ignores v (onFrame role f k) :=
  .of_forget fun s => onFrame_forget v s role f k

/-- An accessor through its two branches, whatever value it reads (R116). -/
theorem accessor_ignores (v : Unread) (role : Role) (f : Frame) (r : Result) :
    Ignores v fun s => if f.valid role then .next (answer r s) else .fault .accessorOnUnvalidated :=
  onFrame_ignores v role f fun _ => r

theorem onCopy_ignores (v : Unread) (r : Except Refusal Raw) : Ignores v (onCopy r) :=
  .of_forget fun s => onCopy_forget v s r

theorem answer_ignores (v : Unread) (r : Result) : Ignores v fun s => .next (answer r s) :=
  .of_forget fun s => congrArg Host.Outcome.next (answer_forget v s r)

theorem answerRaw_ignores (v : Unread) (r : Except Refusal Raw) : Ignores v (answerRaw r) :=
  .of_forget fun s => answerRaw_forget v s r

/-- What an operation reads of the configuration is not forgotten. -/
theorem Ignores.of_cfg {v : Unread} {k : ValidCfg → State → Host.Outcome State Fault Refusal}
    (h : ∀ c, Ignores v (k c)) : Ignores v fun s => k s.cfg s := by
  intro s
  beta_reduce
  rw [forget_cfg]
  exact h s.cfg s

theorem recycle_ignores (v : Unread) : Ignores v execRecycle := by
  refine .of_forget fun s => congrArg Host.Outcome.next ?_
  rw [fresh_forget, recycle_forget]

theorem txConfig_ignores (v : Unread) (a b f : Nat) : Ignores v (execTxConfig a b f) := by
  refine .of_forget fun s => ?_
  unfold execTxConfig
  rw [forget_configOpen, forget_cfg]
  split
  · split
    · cases v <;> rfl
    · rfl
  · rfl

theorem txStart_ignores (v : Unread) (now : Nat) : Ignores v (execTxStart now) :=
  Ignores.tick (k := fun s => .next (txStart now s))
    (.of_forget fun s => congrArg Host.Outcome.next (txStart_forget v s now))

theorem txCheck_ignores (v : Unread) (now : Nat) : Ignores v (execTxCheck now) := by
  refine Ignores.tick (k := fun s => .next { txCheck now s with result := .tx (txProgress now s) })
    (.of_forget fun s => ?_)
  rw [txCheck_forget, txProgress_forget]
  cases v <;> rfl

theorem prepareFrame_ignores (v : Unread) (basis : Raw) (m : Bool) (inp : Inp) :
    Ignores v (execPrepareFrame basis m inp) := by
  refine .of_forget fun s => ?_
  unfold execPrepareFrame
  rw [forget_cfg, forget_cq]
  split
  · rfl
  · cases v <;> rfl

theorem checkVolts_ignores (v : Unread) (f : Frame) (inp : Inp) : Ignores v (execCheckVolts f inp) := by
  refine .of_forget fun s => ?_
  unfold execCheckVolts
  rw [fresh_forget, checkVolts_forget]
  split <;> rfl

/-- Every operation ignores both elements, but for the status read, which returns `master` (R243, R267, R270). -/
theorem exec_ignores (v : Unread) (i : Instr) (h : v = .master → i ≠ .rdStatus) : Ignores v (exec i) := by
  cases i with
  | stepIdle now inp => exact stepRow_ignores v .idle now inp
  | stepObserveMasterFrame now inp => exact stepRow_ignores v .observeMasterFrame now inp
  | stepValidateMasterFrame now inp => exact stepRow_ignores v .validateMasterFrame now inp
  | stepAwaitHeaterReplyToMaster now inp => exact stepRow_ignores v .awaitHeaterReplyToMaster now inp
  | stepValidateHeaterReplyToMaster now inp => exact stepRow_ignores v .validateHeaterReplyToMaster now inp
  | stepReportMasterExchange now inp => exact stepRow_ignores v .reportMasterExchange now inp
  | stepTransmitSelf now inp => exact stepRow_ignores v .transmitSelf now inp
  | stepAwaitHeaterReplyToSelf now inp => exact stepRow_ignores v .awaitHeaterReplyToSelf now inp
  | stepValidateHeaterReplyToSelf now inp => exact stepRow_ignores v .validateHeaterReplyToSelf now inp
  | stepReportSelfExchange now inp => exact stepRow_ignores v .reportSelfExchange now inp
  | stepHousekeeping now inp => exact stepRow_ignores v .housekeeping now inp
  | busRx b | reset t0 | reqOn b | reqOff b | reqRaw b | sfiUpdate b | sfiInhibit | sfiReset
  | rdOemFrame | rdHtrFrame | rdFault => exact .of_forget fun s => by cases v <;> rfl
  | recycle => exact recycle_ignores v
  | txConfig a b f => exact txConfig_ignores v a b f
  | txStart now => exact txStart_ignores v now
  | txCheck now => exact txCheck_ignores v now
  | prepareFrame basis m inp => exact prepareFrame_ignores v basis m inp
  | checkVolts f inp => exact checkVolts_ignores v f inp
  | rdStatus =>
    cases v with
    | log => exact .of_forget fun s => rfl
    | master => exact absurd rfl (h rfl)
  | crc16 data | setCrc x | verifyCrc x | parse x role | frameHeater x | composeDisabled x inp
  | setCHeader x b | setCLength x b | setCCommand x b | setCFanSensorSelect x b | setCOperatingMode x b
  | setCGlowDrive x b | setCPrime x b | setCReserved x b | setHHeader x b | setHLength x b | setHRunState x b
  | setHErrState x b | setHStoredErrorCode x b | setHReserved x b => exact answer_ignores v _
  | frameController x =>
    exact .of_cfg fun c => answer_ignores v (.controllerFields
      ((parse x .controller).map fun f => controllerLayout c.tempByteSigned f.bytes))
  | composeLinearHz x inp => exact answerRaw_ignores v (composeLinearHz inp x)
  | composeStandard x inp => exact .of_cfg fun c => answerRaw_ignores v (composeStandard c.tempByteSigned inp x)
  | composeWindowed x inp => exact .of_cfg fun c => answerRaw_ignores v (composeWindowed c.tempByteSigned inp x)
  | getCActualTemperature f =>
    exact .of_cfg fun c =>
      onFrame_ignores v .controller f fun x => .degrees (degreesOf c.tempByteSigned (getByte 3 x))
  | setCActualTemperature x t => exact .of_cfg fun c => onCopy_ignores v (setDegrees 3 c.tempByteSigned t x)
  | getCDesiredDemand f view =>
    cases view with
    | temperature =>
      exact .of_cfg fun c =>
        onFrame_ignores v .controller f fun x => .degrees (degreesOf c.tempByteSigned (getByte 4 x))
    | hzProxy => exact accessor_ignores v _ _ _
  | setCDesiredDemand x view t =>
    cases view with
    | temperature => exact .of_cfg fun c => onCopy_ignores v (setDegrees 4 c.tempByteSigned t x)
    | hzProxy => exact onCopy_ignores v _
  | serialize f
  | getCHeader f | getCLength f | getCCommand f | getCPumpMinFreq f | getCPumpMaxFreq f | getCFanMinRPM f
  | getCFanMaxRPM f | getCOperatingVoltage f | getCFanSensorSelect f | getCOperatingMode f | getCMinTemperature f
  | getCMaxTemperature f | getCGlowDrive f | getCPrime f | getCReserved f | getCCrc f
  | getHHeader f | getHLength f | getHRunState f | getHErrState f | getHSupplyVoltage f | getHFanRPM f
  | getHFanVoltage f | getHHeatExchgTemp f | getHGlowVoltage f | getHGlowCurrent f | getHActualPumpFreq f
  | getHStoredErrorCode f | getHReserved f | getHCrc f => exact accessor_ignores v _ _ _
  | setCPumpMinFreq x p | setCPumpMaxFreq x p | setCFanMinRPM x p | setCFanMaxRPM x p | setCOperatingVoltage x p
  | setCMinTemperature x p | setCMaxTemperature x p | setHSupplyVoltage x p | setHFanRPM x p | setHFanVoltage x p
  | setHHeatExchgTemp x p | setHGlowVoltage x p | setHGlowCurrent x p | setHActualPumpFreq x p =>
    exact onCopy_ignores v _

/-- Settles O58: every operation ignores the log. -/
theorem logIsNotArchitectural : Obligations.LogIsNotArchitectural :=
  fun i => exec_ignores .log i nofun

/-- Settles O59: every operation but the status read ignores the mastership. -/
theorem masterIsNeverRead : Obligations.MasterIsNeverRead :=
  fun i s h => exec_ignores .master i (fun _ => h) s

end Sys2Proof.Machine
end
